-- ==== Sys2Proof/Word.lean ====
section
/-! DEFINITION. The word types of the machine (00_scope.md R5, R9) and the type of its memories. -/

namespace Sys2Proof

/-- An 8-bit value, `u8` of 00_scope.md R9. -/
abbrev Byte := BitVec 8

/-- A 16-bit value, `u16` of 00_scope.md R9. -/
abbrev Word := BitVec 16

/-- A memory of `w`-bit entries: pairs of index and content in one canonical form (`Memory.wf`,
Machine/Memory.lean). At `w = 8` this is a list of `Host.Cell`. -/
abbrev Memory (w : Nat) := List (Nat × BitVec w)

end Sys2Proof
end

