-- ==== Sys2Proof/Machine/Bits.lean ====
section
/-! DEFINITION. Bit fields, byte order and sign extension (00_scope.md R9). -/

namespace Sys2Proof.Machine

/-- `lo(w) = w[7:0]`. -/
def lo (w : Word) : Byte := w.extractLsb' 0 8

/-- `hi(w) = w[15:8]`, also `page(w)`. -/
def hi (w : Word) : Byte := w.extractLsb' 8 8

/-- `[h, l]` concatenated, `h` in the high bits: the word whose low byte is `l` (20_memory.md R84). -/
def word (h l : Byte) : Word := h ++ l

/-- `zext_16(b)`. -/
def zext16 (b : Byte) : Word := b.setWidth 16

/-- `sext_16(b)`: `b` if `b < 0x80`, else `b + 0xFF00`. -/
def sext16 (b : Byte) : Word := b.signExtend 16

/-- `b` with bit `n` set to `on`. -/
def setBit (b : Byte) (n : Nat) (on : Bool) : Byte :=
  if on then b ||| (1#8 <<< n) else b &&& ~~~(1#8 <<< n)

/-- Bit `n` of `v` as a number. -/
def bitNat {w : Nat} (v : BitVec w) (n : Nat) : Nat := (v.getLsbD n).toNat

/-- The `len` bits of `v` from bit `low` up, as a number. -/
def field (v : Word) (low len : Nat) : Nat := (v.toNat >>> low) % 2 ^ len

/-- `v` with its `len` bits from bit `low` up replaced by the low `len` bits of `x`. -/
def putField (v : Word) (low len : Nat) (x : Nat) : Word :=
  let m : Word := BitVec.ofNat 16 ((2 ^ len - 1) <<< low)
  (v &&& ~~~m) ||| (BitVec.ofNat 16 (x <<< low) &&& m)

/-- `b` with its eight bits in the opposite order (`Flip`, 48_ppu_pipeline.md R315). -/
def reverseBits (b : Byte) : Byte := b.reverse

end Sys2Proof.Machine
end

