-- ==== Sys2Proof/Machine/Flags.lean ====
section
/-! DEFINITION. The flag register's bits and every flag computation (10_state.md R25 to R27, 43_alu.md, 44_shift_incdec.md). -/

namespace Sys2Proof.Machine

/-- `C`, `Z`, `I`, `V`, `N` of a flag byte (10_state.md R25). -/
def flagC (p : Byte) : Bool := p.getLsbD 0
def flagZ (p : Byte) : Bool := p.getLsbD 1
def flagI (p : Byte) : Bool := p.getLsbD 2
def flagD (p : Byte) : Bool := p.getLsbD 3
def flagB (p : Byte) : Bool := p.getLsbD 4
def flagU (p : Byte) : Bool := p.getLsbD 5
def flagV (p : Byte) : Bool := p.getLsbD 6
def flagN (p : Byte) : Bool := p.getLsbD 7

/-- `C <- on`, and so on for each flag an instruction writes. -/
def setC (p : Byte) (on : Bool) : Byte := setBit p 0 on
def setZ (p : Byte) (on : Bool) : Byte := setBit p 1 on
def setI (p : Byte) (on : Bool) : Byte := setBit p 2 on
def setD (p : Byte) (on : Bool) : Byte := setBit p 3 on
def setV (p : Byte) (on : Bool) : Byte := setBit p 6 on
def setN (p : Byte) (on : Bool) : Byte := setBit p 7 on

/-- `SetZN(v)` (10_state.md R27). -/
def setZN (p v : Byte) : Byte := setN (setZ p (v == 0#8)) (v.getLsbD 7)

/-- The sum `A + m + C` as a natural number, 0 .. 511 (43_alu.md R180). -/
def addSum (a m : Byte) (c : Bool) : Nat := a.toNat + m.toNat + c.toNat

/-- The 8-bit result of ADC (43_alu.md R180). -/
def addResult (a m : Byte) (c : Bool) : Byte := BitVec.ofNat 8 (addSum a m c)

/-- The carry of ADC (43_alu.md R180). -/
def addCarry (a m : Byte) (c : Bool) : Bool := decide (0xFF < addSum a m c)

/-- The overflow of ADC, from the old `A`, the operand and the result (43_alu.md R180). -/
def addOverflow (a m r : Byte) : Bool := ((a ^^^ r) &&& (m ^^^ r) &&& 0x80#8) != 0#8

/-- The flags after ADC (43_alu.md R180); SBC is ADC of the complement (R181). The decimal flag is not read (R190). -/
def addFlags (p a m : Byte) (c : Bool) : Byte :=
  let r := addResult a m c
  setZN (setV (setC p (addCarry a m c)) (addOverflow a m r)) r

/-- `Compare(reg, m)` (43_alu.md R191). -/
def compareFlags (p reg m : Byte) : Byte :=
  let t := reg - m
  setN (setZ (setC p (decide (m.toNat ≤ reg.toNat))) (reg == m)) (t.getLsbD 7)

/-- The flags after BIT (43_alu.md R188). -/
def bitFlags (p a m : Byte) : Byte :=
  setV (setN (setZ p (a &&& m == 0#8)) (m.getLsbD 7)) (m.getLsbD 6)

/-- What a shift or rotate computes. -/
structure ShiftOut where
  result : Byte
  carry : Bool
  deriving DecidableEq, Repr

/-- ASL (44_shift_incdec.md R200). -/
def aslOut (v : Byte) (_ : Bool) : ShiftOut := { result := v <<< 1, carry := v.getLsbD 7 }

/-- LSR (44_shift_incdec.md R201). -/
def lsrOut (v : Byte) (_ : Bool) : ShiftOut := { result := v >>> 1, carry := v.getLsbD 0 }

/-- ROL: the old carry enters bit 0 (44_shift_incdec.md R202). -/
def rolOut (v : Byte) (c : Bool) : ShiftOut := { result := setBit (v <<< 1) 0 c, carry := v.getLsbD 7 }

/-- ROR: the old carry enters bit 7 (44_shift_incdec.md R203). -/
def rorOut (v : Byte) (c : Bool) : ShiftOut := { result := setBit (v >>> 1) 7 c, carry := v.getLsbD 0 }

/-- The flag byte pushed by PHP and BRK: B = 1, U = 1 (42_stack.md R173, 45_control_flow.md R232). -/
def pushedBySoftware (p : Byte) : Byte := p ||| 0x30#8

/-- The flag byte pushed by NMI and IRQ entry: B = 0, U = 1 (60_exceptions.md R343). -/
def pushedByInterrupt (p : Byte) : Byte := (p &&& 0xEF#8) ||| 0x20#8

/-- The flags after PLP: N V D I Z C from the popped byte, U and B as stored (42_stack.md R175). -/
def plpFlags (p popped : Byte) : Byte := (popped &&& 0xCF#8) ||| (p &&& 0x30#8)

/-- The flags after RTI: N V D I Z C from the popped byte, then B and U cleared (45_control_flow.md R233). -/
def rtiFlags (popped : Byte) : Byte := popped &&& 0xCF#8

end Sys2Proof.Machine
end

