-- ==== Sys2Proof/Machine/Memory.lean ====
section
/-! DEFINITION. Reading and writing one memory, and its canonical form. -/

namespace Sys2Proof

/-- What an index that is not listed reads as (DESIGN CHOICE, log 3; unsafe for claims about State.reset alone:
10_state.md R49 leaves every memory's launch contents open). -/
def Memory.unlisted (w : Nat) : BitVec w := 0#w

/-- The content at index `a`. -/
def Memory.read {w : Nat} : Memory w → Nat → BitVec w
  | [], _ => Memory.unlisted w
  | (k, v) :: rest, a => if a = k then v else Memory.read rest a

/-- The list with index `a` no longer listed. -/
def Memory.erase {w : Nat} : Memory w → Nat → Memory w
  | [], _ => []
  | (k, v) :: rest, a => if a = k then rest else (k, v) :: Memory.erase rest a

/-- The list with `v` listed at index `a`, in its place in the rising order. -/
def Memory.insert {w : Nat} : Memory w → Nat → BitVec w → Memory w
  | [], a, v => [(a, v)]
  | (k, u) :: rest, a, v =>
    if a < k then (a, v) :: (k, u) :: rest
    else if a = k then (a, v) :: rest
    else (k, u) :: Memory.insert rest a v

/-- The memory after `v` is written at index `a`: writing what an unlisted index reads as removes the entry. -/
def Memory.write {w : Nat} (m : Memory w) (a : Nat) (v : BitVec w) : Memory w :=
  if v = Memory.unlisted w then m.erase a else m.insert a v

/-- The indexes rise strictly from `low` on, and no entry equals what an unlisted index reads as. -/
def Memory.wfFrom {w : Nat} (low : Nat) : Memory w → Bool
  | [] => true
  | (k, v) :: rest => decide (low ≤ k) && decide (v ≠ Memory.unlisted w) && Memory.wfFrom (k + 1) rest

/-- The canonical form. -/
def Memory.wf {w : Nat} (m : Memory w) : Bool := m.wfFrom 0

/-- Every listed index is below `size`. -/
def Memory.below {w : Nat} (m : Memory w) (size : Nat) : Bool := m.all fun c => decide (c.1 < size)

/-- The canonical form of a memory of `size` entries. -/
def Memory.wfIn {w : Nat} (m : Memory w) (size : Nat) : Bool := m.wf && m.below size

end Sys2Proof
end

