-- ==== Sys2Proof/Config.lean ====
section
/-! DEFINITION. What is fixed for one machine (00_scope.md R6): the cartridge and the open parameters, as one
record; the machine's constants; and the free values, constants without a body. -/

namespace Sys2Proof

/-- The mapper ids for which a machine exists (20_memory.md R73, R95). -/
inductive MapperId where
  | mapper0
  | mapper1
  deriving DecidableEq, Repr

/-- The nametable mirroring mode of the cartridge (00_scope.md R6, 20_memory.md R82). -/
inductive Mirroring where
  | horizontal
  | vertical
  deriving DecidableEq, Repr

/-- `PPUSCROLL_FINE_ORDER` (47_ppu_registers.md R270, 90_conflicts.md C4). -/
inductive FineOrder where
  | asDocument
  | as2c02
  deriving DecidableEq, Repr

/-- The configuration of one machine (00_scope.md R6, 10_state.md R50): no step writes it.
It is plain data, held in State, so that every statement about all states is one about all
configurations (DESIGN CHOICE, log 1; safe). -/
structure Config where
  /-- `PRG_BANKS`, in units of 16 KB. -/
  prgBanks : Nat
  /-- `CHR_BANKS`, in units of 8 KB; 0 means CHR-RAM (20_memory.md R79). -/
  chrBanks : Nat
  /-- `MAPPER_ID`. -/
  mapper : MapperId
  /-- `MIRRORING`. -/
  mirroring : Mirroring
  /-- `PRG`, the program ROM image. -/
  prg : Memory 8
  /-- `CHR_ROM`, the character ROM image. -/
  chrRom : Memory 8
  /-- `RESET_CYCLES` (70_reset_and_hazards.md R381), open. -/
  resetCycles : Nat
  /-- `CTRL_TOP3` (20_memory.md R66), open. -/
  ctrlTop3 : BitVec 3
  /-- `PPUSCROLL_FINE_ORDER`. -/
  fineOrder : FineOrder
  /-- `COLOR_LUT[0..63]` (48_ppu_pipeline.md R321), open. -/
  colorLut : Memory 32
  deriving DecidableEq, Repr

/-- The size of the program ROM in bytes (10_state.md R35). -/
def Config.prgSize (c : Config) : Nat := 16384 * c.prgBanks

/-- `VEC_NMI` (60_exceptions.md R341). -/
def vecNmi : Word := 0xFFFA#16

/-- `VEC_RESET` (60_exceptions.md R341). -/
def vecReset : Word := 0xFFFC#16

/-- `VEC_IRQ`, shared by IRQ and BRK (60_exceptions.md R341). -/
def vecIrq : Word := 0xFFFE#16

/-- The `n`-th byte read from a write-only PPU register, `OpenBus` of 47_ppu_registers.md R275: a free
value (log 5). -/
opaque Config.openBus : Nat → BitVec 8

/-- Bits 4:0 of the `n`-th draw, for a PPUSTATUS read (47_ppu_registers.md R265): a free value (log 5). -/
opaque Config.statusLow : Nat → BitVec 5

/-- The pattern address of a sprite fetch whose row number is negative, for which 48_ppu_pipeline.md R314 gives
no address: a free value, of the scanline, the sprite's Y, tile and attribute bytes, and PPUCTRL (log 6). -/
opaque Config.straySpriteAddress : Int → BitVec 8 → BitVec 8 → BitVec 8 → BitVec 8 → BitVec 16

end Sys2Proof
end

