-- ==== Sys2Proof/Machine/State.lean ====
section
/-! DEFINITION. The machine's state as plain data (10_state.md), its outcomes, and the state after reset. -/

namespace Sys2Proof.Machine

/-- The CPU's registers (10_state.md R20 to R28). -/
structure Cpu where
  /-- Accumulator (R20). -/
  a : BitVec 8
  /-- First index register (R21). -/
  x : BitVec 8
  /-- Second index register (R22). -/
  y : BitVec 8
  /-- Stack pointer (R23). -/
  sp : BitVec 8
  /-- Flags N V U B D I Z C, bit 7 down to bit 0 (R25). -/
  p : BitVec 8
  /-- Program counter (R24). -/
  pc : BitVec 16
  /-- Cycles owed before the next instruction fetch (R28). -/
  debt : Nat
  deriving DecidableEq, Repr

/-- The phase of sprite evaluation, `ev_mode` (10_state.md R41). -/
inductive EvalMode where
  | scan
  | copy
  | ovfScan
  | done
  deriving DecidableEq, Repr

/-- One sprite shift/latch/counter slot (10_state.md R40). -/
structure SpriteSlot where
  lo : BitVec 8
  hi : BitVec 8
  attr : BitVec 8
  x : BitVec 8
  deriving DecidableEq, Repr

/-- The PPU's registers, pipeline, memories and output (10_state.md R36 to R45). -/
structure Ppu where
  /-- PPUCTRL (R36). -/
  ctrl : BitVec 8
  /-- PPUMASK (R36). -/
  mask : BitVec 8
  /-- PPUSTATUS bit 7; only bits 7, 6 and 5 exist (R36). -/
  vblank : Bool
  /-- PPUSTATUS bit 6. -/
  spr0Hit : Bool
  /-- PPUSTATUS bit 5. -/
  sprOverflow : Bool
  /-- OAMADDR (R36). -/
  oamaddr : BitVec 8
  /-- The write toggle: false is 0, the next write is the first of a pair (R37). -/
  w : Bool
  /-- The temporary VRAM address (R37). -/
  t : BitVec 16
  /-- The current VRAM address (R37). -/
  v : BitVec 16
  /-- Fine X (R37). -/
  fineX : BitVec 3
  /-- The PPUDATA read buffer (R37). -/
  dataBuf : BitVec 8
  /-- Fetch latches (R38). -/
  ntLatch : BitVec 8
  atLatch : BitVec 2
  patLoLatch : BitVec 8
  patHiLatch : BitVec 8
  /-- Background shift registers (R38). -/
  bgPatLo : BitVec 16
  bgPatHi : BitVec 16
  bgAtLo : BitVec 16
  bgAtHi : BitVec 16
  /-- Primary OAM, 256 bytes (R39). -/
  oam : Memory 8
  /-- Secondary OAM, 32 bytes (R39). -/
  soam : Memory 8
  /-- The eight sprite slots, slot 0 first (R40). -/
  slots : List SpriteSlot
  /-- Whether this scanline's evaluation selected OAM sprite 0 (R40). -/
  spr0Next : Bool
  /-- Whether slot 0 holds OAM sprite 0 on the scanline being drawn (R40). -/
  spr0Cur : Bool
  /-- The evaluation's sprite index and byte index (R41). -/
  evN : BitVec 6
  evM : BitVec 2
  /-- Sprites copied so far, 0..8 (R41). -/
  evFound : Nat
  evMode : EvalMode
  /-- The byte read on the odd cycle (R41). -/
  evLatch : BitVec 8
  /-- 0..340 (R42). -/
  cycle : Nat
  /-- -1..260 (R42). -/
  scanline : Int
  /-- The frame-parity flag (R42). -/
  oddFrame : Bool
  /-- The two physical nametables: region `n`, offset `i` at index `1024 * n + i` (R43; log 12). -/
  nt : Memory 8
  /-- Palette memory, 32 bytes (R43). -/
  pal : Memory 8
  /-- Pixel (x, y) at index `256 * y + x` (R44). -/
  framebuffer : Memory 32
  frameComplete : Bool
  /-- The PPU's NMI request (R45). -/
  nmiPending : Bool
  deriving DecidableEq, Repr

/-- What the host may do between two ticks (70_reset_and_hazards.md R395). -/
inductive HostEvent where
  /-- Call `cpu_irq`. -/
  | irq
  /-- Call `cpu_nmi`. -/
  | nmi
  /-- Call `cpu_reset`. -/
  | reset
  /-- Set the live button byte. -/
  | setButtons (b : BitVec 8)
  deriving DecidableEq, Repr

/-- Everything the spec gives the machine (10_state.md), and two fields of the model's own. -/
structure State where
  cpu : Cpu
  ppu : Ppu
  /-- The cartridge and the open parameters; no step writes it (10_state.md R50; log 1). -/
  config : Config
  /-- The 2 KB internal RAM (R32). -/
  ram : Memory 8
  /-- The byte behind each CPU address that no rule maps (R34). -/
  unmapped : Memory 8
  /-- Mapper 1's work RAM, 8 KB (R35). -/
  prgRam : Memory 8
  /-- Character RAM, 8 KB, in use when `chrBanks = 0` (R35). -/
  chrRam : Memory 8
  /-- The controller shift register (R33). -/
  ctrlLatch : BitVec 8
  /-- The host's live button byte (R33, 20_memory.md R68). -/
  buttons : BitVec 8
  /-- Completed SystemTicks (R30). -/
  sysclk : Nat
  /-- The model's own: how many free bytes have been drawn (log 5). -/
  draws : Nat
  /-- The model's own: what the host does at each coming tick boundary, the next one first (log 7). -/
  hostScript : List (List HostEvent)
  deriving DecidableEq, Repr

/-- The reasons the machine stops with a fault. -/
inductive Fault where
  /-- Raised by the meanings of the 105 undefined opcode bytes: "a fault state that is never final and from which no
  rule steps" (46_flags_nop_illegal.md R248). It carries the opcode byte and that state, in which the program counter
  has passed the opcode byte. Safe: a claim about a run that reaches it is unprovable. -/
  | illegalOpcode (op : BitVec 8) (state : State)
  deriving DecidableEq, Repr

/-- The reasons the model has no meaning for an instruction. -/
inductive Refusal where
  /-- Raised by an arm of `exec` whose instruction has no meaning yet. Safe: the model stops. -/
  | notModelled (mnemonic : String)
  deriving DecidableEq, Repr

/-- The outcome of a step or of an instruction. -/
abbrev Result := Host.Outcome State Fault Refusal

/-- The configuration of `State.reset`: a placeholder cartridge with no image, in the geometry of the spec's test
vectors (95_test_vectors.md, Conventions), and the open parameters at the values the spec suggests
(92_eei_decisions.md, Parameters left OPEN); the colour table, for which nothing is suggested, reads 0 throughout
(DESIGN CHOICE, log 2; unsafe for claims about State.reset alone). -/
def Config.placeholder : Config where
  prgBanks := 2
  chrBanks := 1
  mapper := .mapper0
  mirroring := .horizontal
  prg := []
  chrRom := []
  resetCycles := 7
  ctrlTop3 := 0b010#3
  fineOrder := .asDocument
  colorLut := []

/-- The PPU at power-on (10_state.md R49), with nothing listed in its memories (log 3). -/
def Ppu.powerOn : Ppu where
  ctrl := 0#8
  mask := 0#8
  vblank := false
  spr0Hit := false
  sprOverflow := false
  oamaddr := 0#8
  w := false
  t := 0#16
  v := 0#16
  fineX := 0#3
  dataBuf := 0#8
  ntLatch := 0#8
  atLatch := 0#2
  patLoLatch := 0#8
  patHiLatch := 0#8
  bgPatLo := 0#16
  bgPatHi := 0#16
  bgAtLo := 0#16
  bgAtHi := 0#16
  oam := []
  soam := []
  slots := List.replicate 8 { lo := 0#8, hi := 0#8, attr := 0#8, x := 0#8 }
  spr0Next := false
  spr0Cur := false
  evN := 0#6
  evM := 0#2
  evFound := 0
  evMode := .done
  evLatch := 0#8
  cycle := 0
  scanline := -1
  oddFrame := false
  nt := []
  pal := []
  framebuffer := []
  frameComplete := false
  nmiPending := false

/-- The machine right after power-on and its reset (70_reset_and_hazards.md R380, R381; 10_state.md R48, R49), with
the placeholder configuration (log 2) and nothing listed in any memory (log 3). The program counter is the word at
$FFFC of that cartridge; `reset_eq_launch` (Laws/Boot.lean) says that this state is what power-on and `cpu_reset` give. -/
def State.reset : State where
  cpu := { a := 0#8, x := 0#8, y := 0#8, sp := 0xFD#8, p := 0x34#8, pc := 0x0000#16, debt := 7 }
  ppu := Ppu.powerOn
  config := Config.placeholder
  ram := []
  unmapped := []
  prgRam := []
  chrRam := []
  ctrlLatch := 0#8
  buttons := 0#8
  sysclk := 0
  draws := 0
  hostScript := []

end Sys2Proof.Machine
end

