-- ==== Sys2Proof/Machine/PpuBus.lean ====
section
/-! DEFINITION. The PPU bus: nametable mirroring, palette aliasing, `PpuRead` and `PpuWrite` (20_memory.md R75, R79 to R83). -/

namespace Sys2Proof.Machine

/-- Where a nametable address lies in the two physical regions: region `NtSelect(a)`, offset `a[9:0]` (20_memory.md R82). -/
def nametableIndex (m : Mirroring) (a : Word) : Nat :=
  let region := match m with
    | .vertical => bitNat a 10
    | .horizontal => bitNat a 11
  1024 * region + a.toNat % 1024

/-- `PalIndex(a)` (20_memory.md R83). -/
def paletteIndex (a : Word) : Nat :=
  let i := a &&& 0x1F#16
  if i &&& 0x13#16 = 0x10#16 then (i &&& 0x0F#16).toNat else i.toNat

/-- `CHR[a]`: CHR-RAM when there is no character ROM bank (20_memory.md R75, R79). -/
def chrRead (c : Config) (chrRam : Memory 8) (a : Nat) : Byte :=
  if c.chrBanks = 0 then chrRam.read a else c.chrRom.read a

/-- What palette reads are and-ed with: $30 when `mask.grayscale`, else $3F (20_memory.md R80, R83). -/
def paletteMask (p : Ppu) : Byte := if p.mask.getLsbD 0 then 0x30#8 else 0x3F#8

/-- `PpuRead(a)` (20_memory.md R80). It has no side effect. -/
def ppuRead (c : Config) (chrRam : Memory 8) (p : Ppu) (addr : Word) : Byte :=
  let a := addr &&& 0x3FFF#16
  if a.toNat ≤ 0x1FFF then chrRead c chrRam a.toNat
  else if a.toNat ≤ 0x3EFF then p.nt.read (nametableIndex c.mirroring a)
  else p.pal.read (paletteIndex a) &&& paletteMask p

/-- `PpuWrite(a, d)` (20_memory.md R81): character ROM is not written (R78). -/
def ppuWrite (s : State) (addr : Word) (d : Byte) : State :=
  let a := addr &&& 0x3FFF#16
  if a.toNat ≤ 0x1FFF then
    if s.config.chrBanks = 0 then { s with chrRam := s.chrRam.write a.toNat d } else s
  else if a.toNat ≤ 0x3EFF then
    { s with ppu := { s.ppu with nt := s.ppu.nt.write (nametableIndex s.config.mirroring a) d } }
  else { s with ppu := { s.ppu with pal := s.ppu.pal.write (paletteIndex a) d } }

end Sys2Proof.Machine
end

