-- ==== Sys2Proof/Machine/PpuRegs.lean ====
section
/-! DEFINITION. The PPU's eight CPU-facing registers: what a read and a write of each does (47_ppu_registers.md). -/

namespace Sys2Proof.Machine

/-- What a bus read gives: the byte, and the state after the read's side effects. -/
structure BusRead where
  value : Byte
  state : State
  deriving DecidableEq, Repr

/-- How far a PPUDATA access moves `v`: `ctrl.inc` (47_ppu_registers.md R261, R272, R273). -/
def vramStep (p : Ppu) : Word := if p.ctrl.getLsbD 2 then 32#16 else 1#16

/-- The value of a PPUSTATUS read: bits 7, 6, 5, and five free low bits (47_ppu_registers.md R265; log 5). -/
def statusByte (p : Ppu) (low : BitVec 5) : Byte :=
  setBit (setBit (setBit (low.setWidth 8) 7 p.vblank) 6 p.spr0Hit) 5 p.sprOverflow

/-- A read of PPUSTATUS clears the vblank flag and the write toggle (47_ppu_registers.md R265). -/
def readStatus (s : State) : BusRead :=
  { value := statusByte s.ppu (Config.statusLow s.draws)
    state := { s with ppu := { s.ppu with vblank := false, w := false }, draws := s.draws + 1 } }

/-- A read of OAMDATA (47_ppu_registers.md R268). -/
def readOamData (s : State) : BusRead := { value := s.ppu.oam.read s.ppu.oamaddr.toNat, state := s }

/-- A read of PPUDATA: buffered one access behind, but for palette addresses (47_ppu_registers.md R272). -/
def readPpuData (s : State) : BusRead :=
  let a := s.ppu.v &&& 0x3FFF#16
  let fetched := ppuRead s.config s.chrRam s.ppu a
  { value := if a.toNat ≤ 0x3EFF then s.ppu.dataBuf else fetched
    state := { s with ppu := { s.ppu with dataBuf := fetched, v := s.ppu.v + vramStep s.ppu } } }

/-- A read of a write-only register gives the free byte `OpenBus` (47_ppu_registers.md R275; log 5). -/
def readOpenBus (s : State) : BusRead :=
  { value := Config.openBus s.draws, state := { s with draws := s.draws + 1 } }

/-- `PpuRegRead(r)` (47_ppu_registers.md R260, R278). -/
def ppuRegRead (s : State) (r : BitVec 3) : BusRead :=
  match r.toNat with
  | 2 => readStatus s
  | 4 => readOamData s
  | 7 => readPpuData s
  | _ => readOpenBus s

/-- A write to PPUCTRL: the nametable bits go to `t[11:10]`; no NMI is raised (47_ppu_registers.md R262). -/
def writeCtrl (s : State) (d : Byte) : State :=
  { s with ppu := { s.ppu with ctrl := d, t := putField s.ppu.t 10 2 (d.toNat % 4) } }

/-- A write to PPUMASK (47_ppu_registers.md R264). -/
def writeMask (s : State) (d : Byte) : State := { s with ppu := { s.ppu with mask := d } }

/-- A write to OAMADDR (47_ppu_registers.md R266). -/
def writeOamAddr (s : State) (d : Byte) : State := { s with ppu := { s.ppu with oamaddr := d } }

/-- A write to OAMDATA, whose address wraps at 256 (47_ppu_registers.md R269). -/
def writeOamData (s : State) (d : Byte) : State :=
  { s with ppu := { s.ppu with oam := s.ppu.oam.write s.ppu.oamaddr.toNat d, oamaddr := s.ppu.oamaddr + 1#8 } }

/-- The first PPUSCROLL write of a pair: coarse X, and the fine field `fineOrder` gives it (47_ppu_registers.md R270). -/
def writeScrollFirst (s : State) (d : Byte) : State :=
  let t := putField s.ppu.t 0 5 (d.toNat >>> 3)
  match s.config.fineOrder with
  | .asDocument => { s with ppu := { s.ppu with t := putField t 12 3 (d.toNat % 8), w := true } }
  | .as2c02 => { s with ppu := { s.ppu with t := t, fineX := d.setWidth 3, w := true } }

/-- The second PPUSCROLL write of a pair: coarse Y, and the other fine field (47_ppu_registers.md R270). -/
def writeScrollSecond (s : State) (d : Byte) : State :=
  let t := putField s.ppu.t 5 5 (d.toNat >>> 3)
  match s.config.fineOrder with
  | .asDocument => { s with ppu := { s.ppu with t := t, fineX := d.setWidth 3, w := false } }
  | .as2c02 => { s with ppu := { s.ppu with t := putField t 12 3 (d.toNat % 8), w := false } }

/-- A write to PPUSCROLL (47_ppu_registers.md R270). -/
def writeScroll (s : State) (d : Byte) : State :=
  if s.ppu.w then writeScrollSecond s d else writeScrollFirst s d

/-- A write to PPUADDR: high byte first; the low byte commits `t` to `v` (47_ppu_registers.md R271). -/
def writeAddr (s : State) (d : Byte) : State :=
  if s.ppu.w then
    let t := (s.ppu.t &&& 0xFF00#16) ||| zext16 d
    { s with ppu := { s.ppu with t := t, v := t, w := false } }
  else
    { s with ppu := { s.ppu with t := (s.ppu.t &&& 0x00FF#16) ||| (zext16 (d &&& 0x3F#8) <<< 8), w := true } }

/-- A write to PPUDATA (47_ppu_registers.md R273). -/
def writePpuData (s : State) (d : Byte) : State :=
  let s1 := ppuWrite s (s.ppu.v &&& 0x3FFF#16) d
  { s1 with ppu := { s1.ppu with v := s1.ppu.v + vramStep s1.ppu } }

/-- `PpuRegWrite(r, d)` (47_ppu_registers.md R260, R278); a write to PPUSTATUS changes nothing (R276). -/
def ppuRegWrite (s : State) (r : BitVec 3) (d : Byte) : State :=
  match r.toNat with
  | 0 => writeCtrl s d
  | 1 => writeMask s d
  | 2 => s
  | 3 => writeOamAddr s d
  | 4 => writeOamData s d
  | 5 => writeScroll s d
  | 6 => writeAddr s d
  | _ => writePpuData s d

end Sys2Proof.Machine
end

