-- ==== Sys2Proof/Machine/Ops.lean ====
section
/-! DEFINITION. The named operations over memory and registers: the CPU bus (20_memory.md R61 to R79), fetching
(40_addressing_modes.md R130), the stack (42_stack.md R170, R171), taking an exception and returning from one
(60_exceptions.md, 45_control_flow.md R232, R233), and `cpu_reset` (70_reset_and_hazards.md R381). -/

namespace Sys2Proof.Machine

/-- Where in `PRG` a CPU address at or above $8000 lies (20_memory.md R74, R76). -/
def prgOffset (c : Config) (a : Word) : Nat := (a.toNat - 0x8000) % c.prgSize

/-- Whether `a` lies in mapper 1's work RAM (20_memory.md R76). -/
def inPrgRam (c : Config) (a : Word) : Bool :=
  c.mapper = .mapper1 && decide (0x6000 ≤ a.toNat) && decide (a.toNat < 0x8000)

/-- `MapperCpuRead(addr)` (20_memory.md R74, R76, R77). -/
def mapperCpuRead (s : State) (a : Word) : Byte :=
  if 0x8000 ≤ a.toNat then s.config.prg.read (prgOffset s.config a)
  else if inPrgRam s.config a then s.prgRam.read (a.toNat - 0x6000)
  else s.unmapped.read a.toNat

/-- `MapperCpuWrite(addr, v)`: a write into program ROM has no effect (20_memory.md R74, R76 to R78). -/
def mapperCpuWrite (s : State) (a : Word) (v : Byte) : State :=
  if 0x8000 ≤ a.toNat then s
  else if inPrgRam s.config a then { s with prgRam := s.prgRam.write (a.toNat - 0x6000) v }
  else { s with unmapped := s.unmapped.write a.toNat v }

/-- `ControllerRead()`: bit 0 of the latch, then the latch rotates left by one (20_memory.md R66). -/
def controllerRead (s : State) : BusRead :=
  { value := (s.config.ctrlTop3.setWidth 8 <<< 5) ||| (s.ctrlLatch &&& 1#8)
    state := { s with ctrlLatch := s.ctrlLatch.rotateLeft 1 } }

/-- `ControllerWrite(v)`: bit 0 reloads the latch from the live buttons (20_memory.md R67). -/
def controllerWrite (s : State) (v : Byte) : State :=
  if v.getLsbD 0 then { s with ctrlLatch := s.buttons } else s

/-- The index in internal RAM of a CPU address below $2000 (20_memory.md R63). -/
def ramIndex (a : Word) : Nat := a.toNat % 0x0800

/-- `MemRead(addr, 1)` (20_memory.md R61). -/
def memRead (s : State) (a : Word) : BusRead :=
  if a.toNat ≤ 0x1FFF then { value := s.ram.read (ramIndex a), state := s }
  else if a.toNat ≤ 0x3FFF then ppuRegRead s (a.setWidth 3)
  else if a = 0x4016#16 then controllerRead s
  else { value := mapperCpuRead s a, state := s }

/-- One byte of OAM-DMA: CPU address `XX` * 256 + `i` to OAM at `oamaddr + i`, wrapping at 256 (20_memory.md R72). -/
def oamDmaByte (page : Byte) (s : State) (i : Nat) : State :=
  let r := memRead s (word page (BitVec.ofNat 8 i))
  { r.state with
    ppu := { r.state.ppu with oam := r.state.ppu.oam.write ((r.state.ppu.oamaddr.toNat + i) % 256) r.value } }

/-- The 256 bytes of OAM-DMA, ascending (20_memory.md R72). -/
def oamDmaCopy (page : Byte) (s : State) : State := (List.range 256).foldl (oamDmaByte page) s

/-- The cycles OAM-DMA costs: one more when the system clock is odd (20_memory.md R72). -/
def oamDmaCost (sysclk : Nat) : Nat := 513 + sysclk % 2

/-- `OamDma(XX)` (20_memory.md R72). -/
def oamDma (s : State) (page : Byte) : State :=
  let s1 := oamDmaCopy page s
  { s1 with cpu := { s1.cpu with debt := s1.cpu.debt + oamDmaCost s1.sysclk } }

/-- `MemWrite(addr, 1, v)` (20_memory.md R62). -/
def memWrite (s : State) (a : Word) (v : Byte) : State :=
  if a.toNat ≤ 0x1FFF then { s with ram := s.ram.write (ramIndex a) v }
  else if a.toNat ≤ 0x3FFF then ppuRegWrite s (a.setWidth 3) v
  else if a = 0x4014#16 then oamDma s v
  else if a = 0x4016#16 then controllerWrite s v
  else mapperCpuWrite s a v

/-- `A <- v`, and so on for each register an instruction writes. -/
def setA (s : State) (v : Byte) : State := { s with cpu := { s.cpu with a := v } }
def setX (s : State) (v : Byte) : State := { s with cpu := { s.cpu with x := v } }
def setY (s : State) (v : Byte) : State := { s with cpu := { s.cpu with y := v } }
def setSp (s : State) (v : Byte) : State := { s with cpu := { s.cpu with sp := v } }
def setP (s : State) (v : Byte) : State := { s with cpu := { s.cpu with p := v } }
def setPc (s : State) (v : Word) : State := { s with cpu := { s.cpu with pc := v } }
def setDebt (s : State) (v : Nat) : State := { s with cpu := { s.cpu with debt := v } }

/-- `Fetch8()` (40_addressing_modes.md R130). -/
def fetch8 (s : State) : BusRead :=
  let r := memRead s s.cpu.pc
  { value := r.value, state := setPc r.state (r.state.cpu.pc + 1#16) }

/-- The address of the stack's byte at `sp` (10_state.md R23). -/
def stackAddress (sp : Byte) : Word := word 0x01#8 sp

/-- `Push8(v)` (42_stack.md R170). -/
def push8 (s : State) (v : Byte) : State :=
  let s1 := memWrite s (stackAddress s.cpu.sp) v
  setSp s1 (s.cpu.sp - 1#8)

/-- `Pop8()` (42_stack.md R171). -/
def pop8 (s : State) : BusRead :=
  let s1 := setSp s (s.cpu.sp + 1#8)
  memRead s1 (stackAddress s1.cpu.sp)

/-- `PC <- word at vec`, low byte first (60_exceptions.md R341). -/
def loadVector (s : State) (vec : Word) : State :=
  let l := memRead s vec
  let h := memRead l.state (vec + 1#16)
  setPc h.state (word h.value l.value)

/-- Taking an exception, the part BRK, NMI and IRQ share: push PC high, PC low and the flag byte `pushed`, set `I`
after the push, load PC from the vector (60_exceptions.md R343, 45_control_flow.md R232). -/
def enterVector (s : State) (pushed : Byte) (vec : Word) : State :=
  let s1 := push8 (push8 (push8 s (hi s.cpu.pc)) (lo s.cpu.pc)) pushed
  loadVector (setP s1 (setI s1.cpu.p true)) vec

/-- `InterruptEntry(vec)` (60_exceptions.md R343): the cycles still owed are dropped. -/
def interruptEntry (s : State) (vec : Word) : State :=
  setDebt (enterVector s (pushedByInterrupt s.cpu.p) vec) 7

/-- `cpu_nmi()`, never gated (60_exceptions.md R345). -/
def cpuNmi (s : State) : State := interruptEntry s vecNmi

/-- `cpu_irq()`: discarded while `I` is set (60_exceptions.md R346). -/
def cpuIrq (s : State) : State := if flagI s.cpu.p then s else interruptEntry s vecIrq

/-- Returning from an exception: pop the flags, PC low, PC high (45_control_flow.md R233, 60_exceptions.md R349). -/
def returnFromInterrupt (s : State) : State :=
  let f := pop8 s
  let l := pop8 (setP f.state (rtiFlags f.value))
  let h := pop8 l.state
  setPc h.state (word h.value l.value)

/-- `cpu_reset()` (70_reset_and_hazards.md R381): nothing outside the CPU's registers changes. -/
def cpuReset (s : State) : State :=
  let s1 := { s with cpu := { s.cpu with a := 0#8, x := 0#8, y := 0#8, sp := 0xFD#8, p := 0x34#8 } }
  let s2 := loadVector s1 vecReset
  setDebt s2 s2.config.resetCycles

end Sys2Proof.Machine
end

