-- ==== Sys2Proof/Machine/Operands.lean ====
section
/-! DEFINITION. Every operand form: effective addresses, the page-cross bit, and reading an operand
(40_addressing_modes.md R131 to R145). The operand bytes have been fetched when an instruction is executed, so `pc`
here is the address of the next sequential instruction. -/

namespace Sys2Proof.Machine

/-- The addressing modes that deliver an address in memory, with the operand bytes of the instruction. -/
inductive MemOperand where
  | zp (z : BitVec 8)
  | zpx (z : BitVec 8)
  | zpy (z : BitVec 8)
  | abs (w : BitVec 16)
  | ind (w : BitVec 16)
  | izx (z : BitVec 8)
  | izy (z : BitVec 8)
  | abx (w : BitVec 16)
  | aby (w : BitVec 16)
  deriving DecidableEq, Repr

/-- What an instruction reads its operand from. -/
inductive Operand where
  | acc
  | imm (v : BitVec 8)
  | mem (m : MemOperand)
  deriving DecidableEq, Repr

/-- What an addressing mode delivers: `ea`, `cross`, and the state after the pointer reads. -/
structure Address where
  ea : Word
  cross : Bool
  state : State
  deriving DecidableEq, Repr

/-- What reading an operand gives. -/
structure OperandRead where
  value : Byte
  cross : Bool
  state : State
  deriving DecidableEq, Repr

/-- Whether two addresses lie in different pages (40_addressing_modes.md R140 to R143). -/
def pageCross (a b : Word) : Bool := hi a != hi b

/-- The word whose low byte is at `pl` and whose high byte is at `ph`, read in that order. -/
def readPointer (s : State) (pl ph : Word) : Address :=
  let l := memRead s pl
  let h := memRead l.state ph
  { ea := word h.value l.value, cross := false, state := h.state }

/-- `ptr + index` as a full 16-bit addition, with its page-cross bit. -/
def indexed (base : Word) (index : Byte) (s : State) : Address :=
  let ea := base + zext16 index
  { ea := ea, cross := pageCross ea base, state := s }

/-- Modes zp, zpx, zpy: an address in the zero page (R134 to R136). -/
def zeroPage (z index : Byte) (s : State) : Address := { ea := zext16 (z + index), cross := false, state := s }

/-- Mode ind: the pointer's high byte is not incremented (R138). -/
def indirect (w : Word) (s : State) : Address := readPointer s w (word (hi w) (lo w + 1#8))

/-- Mode izx: index and pointer wrap inside the zero page (R139). -/
def preIndexed (z : Byte) (s : State) : Address :=
  let p := z + s.cpu.x
  readPointer s (zext16 p) (zext16 (p + 1#8))

/-- Mode izy: the pointer wraps inside the zero page, the index is added to the word (R140). -/
def postIndexed (z : Byte) (s : State) : Address :=
  let p := readPointer s (zext16 z) (zext16 (z + 1#8))
  indexed p.ea s.cpu.y p.state

/-- The effective address of every mode that has one in memory (R134 to R142). -/
def address (m : MemOperand) (s : State) : Address :=
  match m with
  | .zp z => zeroPage z 0#8 s
  | .zpx z => zeroPage z s.cpu.x s
  | .zpy z => zeroPage z s.cpu.y s
  | .abs w => { ea := w, cross := false, state := s }
  | .ind w => indirect w s
  | .izx z => preIndexed z s
  | .izy z => postIndexed z s
  | .abx w => indexed w s.cpu.x s
  | .aby w => indexed w s.cpu.y s

/-- `operand()` (00_scope.md R11): `A`, the immediate byte (R132, R133; the step has read it, log 4), or the byte at `ea`. -/
def readOperand (o : Operand) (s : State) : OperandRead :=
  match o with
  | .acc => { value := s.cpu.a, cross := false, state := s }
  | .imm v => { value := v, cross := false, state := s }
  | .mem m =>
    let e := address m s
    let r := memRead e.state e.ea
    { value := r.value, cross := e.cross, state := r.state }

/-- Mode rel: the branch target (R143). -/
def branchTarget (s : State) (off : Byte) : Word := s.cpu.pc + sext16 off

end Sys2Proof.Machine
end

