-- ==== Sys2Proof/Machine/Timing.lean ====
section
/-! DEFINITION. `InstrCycles` (70_reset_and_hazards.md R400) as the cycles column of the opcode table (30_encoding.md R114). -/

namespace Sys2Proof.Machine

/-- A cost: a base, whether a page cross adds 1 (`+p`), whether a taken branch adds 1 and its page cross 1 more (`+t+p`). -/
structure Cost where
  base : Nat
  onCross : Bool
  onTaken : Bool
  deriving DecidableEq, Repr

/-- A fixed cost; 0 for an undefined opcode byte, which never completes. -/
def fixedCost (n : Nat) : Cost := { base := n, onCross := false, onTaken := false }

/-- A cost marked `+p`. -/
def pageCost (n : Nat) : Cost := { base := n, onCross := true, onTaken := false }

/-- A cost marked `+t+p`. -/
def branchCost (n : Nat) : Cost := { base := n, onCross := false, onTaken := true }

/-- Row 0x of the cycles column. -/
def costRow0 : List Cost :=
  [ fixedCost 7, fixedCost 6, fixedCost 0, fixedCost 0, fixedCost 0, fixedCost 3, fixedCost 5, fixedCost 0,
    fixedCost 3, fixedCost 2, fixedCost 2, fixedCost 0, fixedCost 0, fixedCost 4, fixedCost 6, fixedCost 0 ]

/-- Row 1x of the cycles column. -/
def costRow1 : List Cost :=
  [ branchCost 2, pageCost 5, fixedCost 0, fixedCost 0, fixedCost 0, fixedCost 4, fixedCost 6, fixedCost 0,
    fixedCost 2, pageCost 4, fixedCost 0, fixedCost 0, fixedCost 0, pageCost 4, fixedCost 7, fixedCost 0 ]

/-- Row 2x of the cycles column. -/
def costRow2 : List Cost :=
  [ fixedCost 6, fixedCost 6, fixedCost 0, fixedCost 0, fixedCost 3, fixedCost 3, fixedCost 5, fixedCost 0,
    fixedCost 4, fixedCost 2, fixedCost 2, fixedCost 0, fixedCost 4, fixedCost 4, fixedCost 6, fixedCost 0 ]

/-- Row 3x of the cycles column. -/
def costRow3 : List Cost :=
  [ branchCost 2, pageCost 5, fixedCost 0, fixedCost 0, fixedCost 0, fixedCost 4, fixedCost 6, fixedCost 0,
    fixedCost 2, pageCost 4, fixedCost 0, fixedCost 0, fixedCost 0, pageCost 4, fixedCost 7, fixedCost 0 ]

/-- Row 4x of the cycles column. -/
def costRow4 : List Cost :=
  [ fixedCost 6, fixedCost 6, fixedCost 0, fixedCost 0, fixedCost 0, fixedCost 3, fixedCost 5, fixedCost 0,
    fixedCost 3, fixedCost 2, fixedCost 2, fixedCost 0, fixedCost 3, fixedCost 4, fixedCost 6, fixedCost 0 ]

/-- Row 5x of the cycles column. -/
def costRow5 : List Cost :=
  [ branchCost 2, pageCost 5, fixedCost 0, fixedCost 0, fixedCost 0, fixedCost 4, fixedCost 6, fixedCost 0,
    fixedCost 2, pageCost 4, fixedCost 0, fixedCost 0, fixedCost 0, pageCost 4, fixedCost 7, fixedCost 0 ]

/-- Row 6x of the cycles column. -/
def costRow6 : List Cost :=
  [ fixedCost 6, fixedCost 6, fixedCost 0, fixedCost 0, fixedCost 0, fixedCost 3, fixedCost 5, fixedCost 0,
    fixedCost 4, fixedCost 2, fixedCost 2, fixedCost 0, fixedCost 5, fixedCost 4, fixedCost 6, fixedCost 0 ]

/-- Row 7x of the cycles column. -/
def costRow7 : List Cost :=
  [ branchCost 2, pageCost 5, fixedCost 0, fixedCost 0, fixedCost 0, fixedCost 4, fixedCost 6, fixedCost 0,
    fixedCost 2, pageCost 4, fixedCost 0, fixedCost 0, fixedCost 0, pageCost 4, fixedCost 7, fixedCost 0 ]

/-- Row 8x of the cycles column. -/
def costRow8 : List Cost :=
  [ fixedCost 0, fixedCost 6, fixedCost 0, fixedCost 0, fixedCost 3, fixedCost 3, fixedCost 3, fixedCost 0,
    fixedCost 2, fixedCost 0, fixedCost 2, fixedCost 0, fixedCost 4, fixedCost 4, fixedCost 4, fixedCost 0 ]

/-- Row 9x of the cycles column. -/
def costRow9 : List Cost :=
  [ branchCost 2, fixedCost 6, fixedCost 0, fixedCost 0, fixedCost 4, fixedCost 4, fixedCost 4, fixedCost 0,
    fixedCost 2, fixedCost 5, fixedCost 2, fixedCost 0, fixedCost 0, fixedCost 5, fixedCost 0, fixedCost 0 ]

/-- Row Ax of the cycles column. -/
def costRowA : List Cost :=
  [ fixedCost 2, fixedCost 6, fixedCost 2, fixedCost 0, fixedCost 3, fixedCost 3, fixedCost 3, fixedCost 0,
    fixedCost 2, fixedCost 2, fixedCost 2, fixedCost 0, fixedCost 4, fixedCost 4, fixedCost 4, fixedCost 0 ]

/-- Row Bx of the cycles column. -/
def costRowB : List Cost :=
  [ branchCost 2, pageCost 5, fixedCost 0, fixedCost 0, fixedCost 4, fixedCost 4, fixedCost 4, fixedCost 0,
    fixedCost 2, pageCost 4, fixedCost 2, fixedCost 0, pageCost 4, pageCost 4, pageCost 4, fixedCost 0 ]

/-- Row Cx of the cycles column. -/
def costRowC : List Cost :=
  [ fixedCost 2, fixedCost 6, fixedCost 0, fixedCost 0, fixedCost 3, fixedCost 3, fixedCost 5, fixedCost 0,
    fixedCost 2, fixedCost 2, fixedCost 2, fixedCost 0, fixedCost 4, fixedCost 4, fixedCost 6, fixedCost 0 ]

/-- Row Dx of the cycles column. -/
def costRowD : List Cost :=
  [ branchCost 2, pageCost 5, fixedCost 0, fixedCost 0, fixedCost 0, fixedCost 4, fixedCost 6, fixedCost 0,
    fixedCost 2, pageCost 4, fixedCost 0, fixedCost 0, fixedCost 0, pageCost 4, fixedCost 7, fixedCost 0 ]

/-- Row Ex of the cycles column. -/
def costRowE : List Cost :=
  [ fixedCost 2, fixedCost 6, fixedCost 0, fixedCost 0, fixedCost 3, fixedCost 3, fixedCost 5, fixedCost 0,
    fixedCost 2, fixedCost 2, fixedCost 2, fixedCost 0, fixedCost 4, fixedCost 4, fixedCost 6, fixedCost 0 ]

/-- Row Fx of the cycles column. -/
def costRowF : List Cost :=
  [ branchCost 2, pageCost 5, fixedCost 0, fixedCost 0, fixedCost 0, fixedCost 4, fixedCost 6, fixedCost 0,
    fixedCost 2, pageCost 4, fixedCost 0, fixedCost 0, fixedCost 0, pageCost 4, fixedCost 7, fixedCost 0 ]

/-- The cycles column, 16 rows of 16. -/
def costMap : List (List Cost) :=
  [ costRow0, costRow1, costRow2, costRow3, costRow4, costRow5, costRow6, costRow7, costRow8, costRow9, costRowA, costRowB, costRowC, costRowD, costRowE, costRowF ]

/-- The cost of the instruction with opcode byte `op`. -/
def instrCost (op : Byte) : Cost := (costMap.getD (op.toNat / 16) []).getD (op.toNat % 16) (fixedCost 0)

/-- `InstrCycles(op, cross, taken)` (70_reset_and_hazards.md R400). -/
def instrCycles (op : Byte) (cross taken : Bool) : Nat :=
  let k := instrCost op
  k.base + (if k.onCross && cross then 1 else 0) + (if k.onTaken && taken then 1 + cross.toNat else 0)

/-- `debt <- debt + InstrCycles(op, cross, taken)` (70_reset_and_hazards.md R390). -/
def charge (op : Byte) (cross taken : Bool) (s : State) : State :=
  setDebt s (s.cpu.debt + instrCycles op cross taken)

end Sys2Proof.Machine
end

