-- ==== Sys2Proof/Machine/Alu.lean ====
section
/-! DEFINITION. Arithmetic, logic, compare and bit test (43_alu.md). -/

namespace Sys2Proof.Machine

/-- `A + m + C` with its flags: ADC on `m`, SBC on the complement of its operand (R180, R181, R189). -/
def addToA (m : Byte) (s : State) : State :=
  let c := flagC s.cpu.p
  setP (setA s (addResult s.cpu.a m c)) (addFlags s.cpu.p s.cpu.a m c)

/-- ADC (R180). -/
def adc (op : Byte) (o : Operand) (s : State) : State :=
  let r := readOperand o s
  charge op r.cross false (addToA r.value r.state)

/-- SBC: ADC of the operand's one's complement (R181). -/
def sbc (op : Byte) (o : Operand) (s : State) : State :=
  let r := readOperand o s
  charge op r.cross false (addToA (r.value ^^^ 0xFF#8) r.state)

/-- `A <- v; SetZN(A)`, the end of AND, ORA and EOR (R182 to R184). -/
def resultToA (v : Byte) (s : State) : State := setP (setA s v) (setZN s.cpu.p v)

/-- AND (R182). -/
def andA (op : Byte) (o : Operand) (s : State) : State :=
  let r := readOperand o s
  charge op r.cross false (resultToA (r.state.cpu.a &&& r.value) r.state)

/-- ORA (R183). -/
def ora (op : Byte) (o : Operand) (s : State) : State :=
  let r := readOperand o s
  charge op r.cross false (resultToA (r.state.cpu.a ||| r.value) r.state)

/-- EOR (R184). -/
def eor (op : Byte) (o : Operand) (s : State) : State :=
  let r := readOperand o s
  charge op r.cross false (resultToA (r.state.cpu.a ^^^ r.value) r.state)

/-- `Compare(reg, operand())` for the register `reg` reads (R185 to R187, R191). -/
def compareReg (op : Byte) (reg : Byte) (o : Operand) (s : State) : State :=
  let r := readOperand o s
  charge op r.cross false (setP r.state (compareFlags r.state.cpu.p reg r.value))

/-- BIT (R188). -/
def bitTest (op : Byte) (o : Operand) (s : State) : State :=
  let r := readOperand o s
  charge op r.cross false (setP r.state (bitFlags r.state.cpu.p r.state.cpu.a r.value))

/-- $61 `ADC ($nn,X)` (43_alu.md R180). -/
def execAdcIzx (z : Byte) (s : State) : Result := .next (adc 0x61#8 (.mem (.izx z)) s)

/-- $65 `ADC $nn` (43_alu.md R180). -/
def execAdcZp (z : Byte) (s : State) : Result := .next (adc 0x65#8 (.mem (.zp z)) s)

/-- $69 `ADC #$nn` (43_alu.md R180). -/
def execAdcImm (v : Byte) (s : State) : Result := .next (adc 0x69#8 (.imm v) s)

/-- $6D `ADC $nnnn` (43_alu.md R180). -/
def execAdcAbs (w : Word) (s : State) : Result := .next (adc 0x6D#8 (.mem (.abs w)) s)

/-- $71 `ADC ($nn),Y` (43_alu.md R180). -/
def execAdcIzy (z : Byte) (s : State) : Result := .next (adc 0x71#8 (.mem (.izy z)) s)

/-- $75 `ADC $nn,X` (43_alu.md R180). -/
def execAdcZpx (z : Byte) (s : State) : Result := .next (adc 0x75#8 (.mem (.zpx z)) s)

/-- $79 `ADC $nnnn,Y` (43_alu.md R180). -/
def execAdcAby (w : Word) (s : State) : Result := .next (adc 0x79#8 (.mem (.aby w)) s)

/-- $7D `ADC $nnnn,X` (43_alu.md R180). -/
def execAdcAbx (w : Word) (s : State) : Result := .next (adc 0x7D#8 (.mem (.abx w)) s)

/-- $E1 `SBC ($nn,X)` (43_alu.md R181). -/
def execSbcIzx (z : Byte) (s : State) : Result := .next (sbc 0xE1#8 (.mem (.izx z)) s)

/-- $E5 `SBC $nn` (43_alu.md R181). -/
def execSbcZp (z : Byte) (s : State) : Result := .next (sbc 0xE5#8 (.mem (.zp z)) s)

/-- $E9 `SBC #$nn` (43_alu.md R181). -/
def execSbcImm (v : Byte) (s : State) : Result := .next (sbc 0xE9#8 (.imm v) s)

/-- $ED `SBC $nnnn` (43_alu.md R181). -/
def execSbcAbs (w : Word) (s : State) : Result := .next (sbc 0xED#8 (.mem (.abs w)) s)

/-- $F1 `SBC ($nn),Y` (43_alu.md R181). -/
def execSbcIzy (z : Byte) (s : State) : Result := .next (sbc 0xF1#8 (.mem (.izy z)) s)

/-- $F5 `SBC $nn,X` (43_alu.md R181). -/
def execSbcZpx (z : Byte) (s : State) : Result := .next (sbc 0xF5#8 (.mem (.zpx z)) s)

/-- $F9 `SBC $nnnn,Y` (43_alu.md R181). -/
def execSbcAby (w : Word) (s : State) : Result := .next (sbc 0xF9#8 (.mem (.aby w)) s)

/-- $FD `SBC $nnnn,X` (43_alu.md R181). -/
def execSbcAbx (w : Word) (s : State) : Result := .next (sbc 0xFD#8 (.mem (.abx w)) s)

/-- $21 `AND ($nn,X)` (43_alu.md R182). -/
def execAndIzx (z : Byte) (s : State) : Result := .next (andA 0x21#8 (.mem (.izx z)) s)

/-- $25 `AND $nn` (43_alu.md R182). -/
def execAndZp (z : Byte) (s : State) : Result := .next (andA 0x25#8 (.mem (.zp z)) s)

/-- $29 `AND #$nn` (43_alu.md R182). -/
def execAndImm (v : Byte) (s : State) : Result := .next (andA 0x29#8 (.imm v) s)

/-- $2D `AND $nnnn` (43_alu.md R182). -/
def execAndAbs (w : Word) (s : State) : Result := .next (andA 0x2D#8 (.mem (.abs w)) s)

/-- $31 `AND ($nn),Y` (43_alu.md R182). -/
def execAndIzy (z : Byte) (s : State) : Result := .next (andA 0x31#8 (.mem (.izy z)) s)

/-- $35 `AND $nn,X` (43_alu.md R182). -/
def execAndZpx (z : Byte) (s : State) : Result := .next (andA 0x35#8 (.mem (.zpx z)) s)

/-- $39 `AND $nnnn,Y` (43_alu.md R182). -/
def execAndAby (w : Word) (s : State) : Result := .next (andA 0x39#8 (.mem (.aby w)) s)

/-- $3D `AND $nnnn,X` (43_alu.md R182). -/
def execAndAbx (w : Word) (s : State) : Result := .next (andA 0x3D#8 (.mem (.abx w)) s)

/-- $01 `ORA ($nn,X)` (43_alu.md R183). -/
def execOraIzx (z : Byte) (s : State) : Result := .next (ora 0x01#8 (.mem (.izx z)) s)

/-- $05 `ORA $nn` (43_alu.md R183). -/
def execOraZp (z : Byte) (s : State) : Result := .next (ora 0x05#8 (.mem (.zp z)) s)

/-- $09 `ORA #$nn` (43_alu.md R183). -/
def execOraImm (v : Byte) (s : State) : Result := .next (ora 0x09#8 (.imm v) s)

/-- $0D `ORA $nnnn` (43_alu.md R183). -/
def execOraAbs (w : Word) (s : State) : Result := .next (ora 0x0D#8 (.mem (.abs w)) s)

/-- $11 `ORA ($nn),Y` (43_alu.md R183). -/
def execOraIzy (z : Byte) (s : State) : Result := .next (ora 0x11#8 (.mem (.izy z)) s)

/-- $15 `ORA $nn,X` (43_alu.md R183). -/
def execOraZpx (z : Byte) (s : State) : Result := .next (ora 0x15#8 (.mem (.zpx z)) s)

/-- $19 `ORA $nnnn,Y` (43_alu.md R183). -/
def execOraAby (w : Word) (s : State) : Result := .next (ora 0x19#8 (.mem (.aby w)) s)

/-- $1D `ORA $nnnn,X` (43_alu.md R183). -/
def execOraAbx (w : Word) (s : State) : Result := .next (ora 0x1D#8 (.mem (.abx w)) s)

/-- $41 `EOR ($nn,X)` (43_alu.md R184). -/
def execEorIzx (z : Byte) (s : State) : Result := .next (eor 0x41#8 (.mem (.izx z)) s)

/-- $45 `EOR $nn` (43_alu.md R184). -/
def execEorZp (z : Byte) (s : State) : Result := .next (eor 0x45#8 (.mem (.zp z)) s)

/-- $49 `EOR #$nn` (43_alu.md R184). -/
def execEorImm (v : Byte) (s : State) : Result := .next (eor 0x49#8 (.imm v) s)

/-- $4D `EOR $nnnn` (43_alu.md R184). -/
def execEorAbs (w : Word) (s : State) : Result := .next (eor 0x4D#8 (.mem (.abs w)) s)

/-- $51 `EOR ($nn),Y` (43_alu.md R184). -/
def execEorIzy (z : Byte) (s : State) : Result := .next (eor 0x51#8 (.mem (.izy z)) s)

/-- $55 `EOR $nn,X` (43_alu.md R184). -/
def execEorZpx (z : Byte) (s : State) : Result := .next (eor 0x55#8 (.mem (.zpx z)) s)

/-- $59 `EOR $nnnn,Y` (43_alu.md R184). -/
def execEorAby (w : Word) (s : State) : Result := .next (eor 0x59#8 (.mem (.aby w)) s)

/-- $5D `EOR $nnnn,X` (43_alu.md R184). -/
def execEorAbx (w : Word) (s : State) : Result := .next (eor 0x5D#8 (.mem (.abx w)) s)

/-- $C1 `CMP ($nn,X)` (43_alu.md R185). -/
def execCmpIzx (z : Byte) (s : State) : Result := .next (compareReg 0xC1#8 s.cpu.a (.mem (.izx z)) s)

/-- $C5 `CMP $nn` (43_alu.md R185). -/
def execCmpZp (z : Byte) (s : State) : Result := .next (compareReg 0xC5#8 s.cpu.a (.mem (.zp z)) s)

/-- $C9 `CMP #$nn` (43_alu.md R185). -/
def execCmpImm (v : Byte) (s : State) : Result := .next (compareReg 0xC9#8 s.cpu.a (.imm v) s)

/-- $CD `CMP $nnnn` (43_alu.md R185). -/
def execCmpAbs (w : Word) (s : State) : Result := .next (compareReg 0xCD#8 s.cpu.a (.mem (.abs w)) s)

/-- $D1 `CMP ($nn),Y` (43_alu.md R185). -/
def execCmpIzy (z : Byte) (s : State) : Result := .next (compareReg 0xD1#8 s.cpu.a (.mem (.izy z)) s)

/-- $D5 `CMP $nn,X` (43_alu.md R185). -/
def execCmpZpx (z : Byte) (s : State) : Result := .next (compareReg 0xD5#8 s.cpu.a (.mem (.zpx z)) s)

/-- $D9 `CMP $nnnn,Y` (43_alu.md R185). -/
def execCmpAby (w : Word) (s : State) : Result := .next (compareReg 0xD9#8 s.cpu.a (.mem (.aby w)) s)

/-- $DD `CMP $nnnn,X` (43_alu.md R185). -/
def execCmpAbx (w : Word) (s : State) : Result := .next (compareReg 0xDD#8 s.cpu.a (.mem (.abx w)) s)

/-- $E0 `CPX #$nn` (43_alu.md R186). -/
def execCpxImm (v : Byte) (s : State) : Result := .next (compareReg 0xE0#8 s.cpu.x (.imm v) s)

/-- $E4 `CPX $nn` (43_alu.md R186). -/
def execCpxZp (z : Byte) (s : State) : Result := .next (compareReg 0xE4#8 s.cpu.x (.mem (.zp z)) s)

/-- $EC `CPX $nnnn` (43_alu.md R186). -/
def execCpxAbs (w : Word) (s : State) : Result := .next (compareReg 0xEC#8 s.cpu.x (.mem (.abs w)) s)

/-- $C0 `CPY #$nn` (43_alu.md R187). -/
def execCpyImm (v : Byte) (s : State) : Result := .next (compareReg 0xC0#8 s.cpu.y (.imm v) s)

/-- $C4 `CPY $nn` (43_alu.md R187). -/
def execCpyZp (z : Byte) (s : State) : Result := .next (compareReg 0xC4#8 s.cpu.y (.mem (.zp z)) s)

/-- $CC `CPY $nnnn` (43_alu.md R187). -/
def execCpyAbs (w : Word) (s : State) : Result := .next (compareReg 0xCC#8 s.cpu.y (.mem (.abs w)) s)

/-- $24 `BIT $nn` (43_alu.md R188). -/
def execBitZp (z : Byte) (s : State) : Result := .next (bitTest 0x24#8 (.mem (.zp z)) s)

/-- $2C `BIT $nnnn` (43_alu.md R188). -/
def execBitAbs (w : Word) (s : State) : Result := .next (bitTest 0x2C#8 (.mem (.abs w)) s)

end Sys2Proof.Machine
end

