-- ==== Sys2Proof/Machine/Control.lean ====
section
/-! DEFINITION. Control transfer (45_control_flow.md). -/

namespace Sys2Proof.Machine

/-- JMP: `PC <- ea` (R220). -/
def jump (op : Byte) (m : MemOperand) (s : State) : State :=
  let e := address m s
  charge op e.cross false (setPc e.state e.ea)

/-- JSR: push the address of the instruction's last byte, high byte first, then `PC <- ea` (R221). -/
def jsr (op : Byte) (w : Word) (s : State) : State :=
  let ret := s.cpu.pc - 1#16
  charge op false false (setPc (push8 (push8 s (hi ret)) (lo ret)) w)

/-- RTS: pop low, pop high, `PC` one past the popped address (R222). -/
def rts (op : Byte) (s : State) : State :=
  let l := pop8 s
  let h := pop8 l.state
  charge op false false (setPc h.state (word h.value l.value + 1#16))

/-- A conditional branch (R223). -/
def branch (op : Byte) (cond : Bool) (off : Byte) (s : State) : State :=
  let ea := branchTarget s off
  charge op (pageCross ea s.cpu.pc) cond (if cond then setPc s ea else s)

/-- BRK: skip the padding byte, then take the exception through `VEC_IRQ`, pushing B = 1 (R232). -/
def brk (op : Byte) (s : State) : State :=
  charge op false false (enterVector (setPc s (s.cpu.pc + 1#16)) (pushedBySoftware s.cpu.p) vecIrq)

/-- RTI (R233). -/
def rti (op : Byte) (s : State) : State := charge op false false (returnFromInterrupt s)

/-- $4C `JMP $nnnn` (45_control_flow.md R220). -/
def execJmpAbs (w : Word) (s : State) : Result := .next (jump 0x4C#8 (.abs w) s)

/-- $6C `JMP ($nnnn)` (45_control_flow.md R220). -/
def execJmpInd (w : Word) (s : State) : Result := .next (jump 0x6C#8 (.ind w) s)

/-- $20 `JSR $nnnn` (45_control_flow.md R221). -/
def execJsr (w : Word) (s : State) : Result := .next (jsr 0x20#8 w s)

/-- $60 `RTS` (45_control_flow.md R222). -/
def execRts (s : State) : Result := .next (rts 0x60#8 s)

/-- $90 `BCC label` (45_control_flow.md R224). -/
def execBcc (off : Byte) (s : State) : Result := .next (branch 0x90#8 (!flagC s.cpu.p) off s)

/-- $B0 `BCS label` (45_control_flow.md R225). -/
def execBcs (off : Byte) (s : State) : Result := .next (branch 0xB0#8 (flagC s.cpu.p) off s)

/-- $F0 `BEQ label` (45_control_flow.md R226). -/
def execBeq (off : Byte) (s : State) : Result := .next (branch 0xF0#8 (flagZ s.cpu.p) off s)

/-- $D0 `BNE label` (45_control_flow.md R227). -/
def execBne (off : Byte) (s : State) : Result := .next (branch 0xD0#8 (!flagZ s.cpu.p) off s)

/-- $30 `BMI label` (45_control_flow.md R228). -/
def execBmi (off : Byte) (s : State) : Result := .next (branch 0x30#8 (flagN s.cpu.p) off s)

/-- $10 `BPL label` (45_control_flow.md R229). -/
def execBpl (off : Byte) (s : State) : Result := .next (branch 0x10#8 (!flagN s.cpu.p) off s)

/-- $50 `BVC label` (45_control_flow.md R230). -/
def execBvc (off : Byte) (s : State) : Result := .next (branch 0x50#8 (!flagV s.cpu.p) off s)

/-- $70 `BVS label` (45_control_flow.md R231). -/
def execBvs (off : Byte) (s : State) : Result := .next (branch 0x70#8 (flagV s.cpu.p) off s)

/-- $00 `BRK` (45_control_flow.md R232). -/
def execBrk (s : State) : Result := .next (brk 0x00#8 s)

/-- $40 `RTI` (45_control_flow.md R233). -/
def execRti (s : State) : Result := .next (rti 0x40#8 s)

end Sys2Proof.Machine
end

