-- ==== Sys2Proof/Machine/FlagOps.lean ====
section
/-! DEFINITION. The flag instructions and NOP (46_flags_nop_illegal.md R240 to R247). -/

namespace Sys2Proof.Machine

/-- An instruction whose whole effect is the flag byte `p` (R240 to R247). -/
def setFlags (op : Byte) (p : Byte) (s : State) : State := charge op false false (setP s p)

/-- $18 `CLC` (46_flags_nop_illegal.md R240). -/
def execClc (s : State) : Result := .next (setFlags 0x18#8 (setC s.cpu.p false) s)

/-- $38 `SEC` (46_flags_nop_illegal.md R241). -/
def execSec (s : State) : Result := .next (setFlags 0x38#8 (setC s.cpu.p true) s)

/-- $58 `CLI` (46_flags_nop_illegal.md R242). -/
def execCli (s : State) : Result := .next (setFlags 0x58#8 (setI s.cpu.p false) s)

/-- $78 `SEI` (46_flags_nop_illegal.md R243). -/
def execSei (s : State) : Result := .next (setFlags 0x78#8 (setI s.cpu.p true) s)

/-- $D8 `CLD` (46_flags_nop_illegal.md R244). -/
def execCld (s : State) : Result := .next (setFlags 0xD8#8 (setD s.cpu.p false) s)

/-- $F8 `SED` (46_flags_nop_illegal.md R245). -/
def execSed (s : State) : Result := .next (setFlags 0xF8#8 (setD s.cpu.p true) s)

/-- $B8 `CLV` (46_flags_nop_illegal.md R246). -/
def execClv (s : State) : Result := .next (setFlags 0xB8#8 (setV s.cpu.p false) s)

/-- $EA `NOP` (46_flags_nop_illegal.md R247). -/
def execNop (s : State) : Result := .next (setFlags 0xEA#8 s.cpu.p s)

end Sys2Proof.Machine
end

