-- ==== Sys2Proof/Machine/Illegal.lean ====
section
/-! DEFINITION. The 105 undefined opcode bytes: `raise IllegalOpcode(op)` (46_flags_nop_illegal.md R248). -/

namespace Sys2Proof.Machine

/-- The fault of an undefined opcode byte, with the state after its fetch (R248; 93_implementation_defined.md U1). -/
def illegalOpcode (op : Byte) (s : State) : Result := .fault (.illegalOpcode op s)

/-- $02, undefined (46_flags_nop_illegal.md R248). -/
def execIllegal02 (s : State) : Result := illegalOpcode 0x02#8 s

/-- $03, undefined (46_flags_nop_illegal.md R248). -/
def execIllegal03 (s : State) : Result := illegalOpcode 0x03#8 s

/-- $04, undefined (46_flags_nop_illegal.md R248). -/
def execIllegal04 (s : State) : Result := illegalOpcode 0x04#8 s

/-- $07, undefined (46_flags_nop_illegal.md R248). -/
def execIllegal07 (s : State) : Result := illegalOpcode 0x07#8 s

/-- $0B, undefined (46_flags_nop_illegal.md R248). -/
def execIllegal0B (s : State) : Result := illegalOpcode 0x0B#8 s

/-- $0C, undefined (46_flags_nop_illegal.md R248). -/
def execIllegal0C (s : State) : Result := illegalOpcode 0x0C#8 s

/-- $0F, undefined (46_flags_nop_illegal.md R248). -/
def execIllegal0F (s : State) : Result := illegalOpcode 0x0F#8 s

/-- $12, undefined (46_flags_nop_illegal.md R248). -/
def execIllegal12 (s : State) : Result := illegalOpcode 0x12#8 s

/-- $13, undefined (46_flags_nop_illegal.md R248). -/
def execIllegal13 (s : State) : Result := illegalOpcode 0x13#8 s

/-- $14, undefined (46_flags_nop_illegal.md R248). -/
def execIllegal14 (s : State) : Result := illegalOpcode 0x14#8 s

/-- $17, undefined (46_flags_nop_illegal.md R248). -/
def execIllegal17 (s : State) : Result := illegalOpcode 0x17#8 s

/-- $1A, undefined (46_flags_nop_illegal.md R248). -/
def execIllegal1A (s : State) : Result := illegalOpcode 0x1A#8 s

/-- $1B, undefined (46_flags_nop_illegal.md R248). -/
def execIllegal1B (s : State) : Result := illegalOpcode 0x1B#8 s

/-- $1C, undefined (46_flags_nop_illegal.md R248). -/
def execIllegal1C (s : State) : Result := illegalOpcode 0x1C#8 s

/-- $1F, undefined (46_flags_nop_illegal.md R248). -/
def execIllegal1F (s : State) : Result := illegalOpcode 0x1F#8 s

/-- $22, undefined (46_flags_nop_illegal.md R248). -/
def execIllegal22 (s : State) : Result := illegalOpcode 0x22#8 s

/-- $23, undefined (46_flags_nop_illegal.md R248). -/
def execIllegal23 (s : State) : Result := illegalOpcode 0x23#8 s

/-- $27, undefined (46_flags_nop_illegal.md R248). -/
def execIllegal27 (s : State) : Result := illegalOpcode 0x27#8 s

/-- $2B, undefined (46_flags_nop_illegal.md R248). -/
def execIllegal2B (s : State) : Result := illegalOpcode 0x2B#8 s

/-- $2F, undefined (46_flags_nop_illegal.md R248). -/
def execIllegal2F (s : State) : Result := illegalOpcode 0x2F#8 s

/-- $32, undefined (46_flags_nop_illegal.md R248). -/
def execIllegal32 (s : State) : Result := illegalOpcode 0x32#8 s

/-- $33, undefined (46_flags_nop_illegal.md R248). -/
def execIllegal33 (s : State) : Result := illegalOpcode 0x33#8 s

/-- $34, undefined (46_flags_nop_illegal.md R248). -/
def execIllegal34 (s : State) : Result := illegalOpcode 0x34#8 s

/-- $37, undefined (46_flags_nop_illegal.md R248). -/
def execIllegal37 (s : State) : Result := illegalOpcode 0x37#8 s

/-- $3A, undefined (46_flags_nop_illegal.md R248). -/
def execIllegal3A (s : State) : Result := illegalOpcode 0x3A#8 s

/-- $3B, undefined (46_flags_nop_illegal.md R248). -/
def execIllegal3B (s : State) : Result := illegalOpcode 0x3B#8 s

/-- $3C, undefined (46_flags_nop_illegal.md R248). -/
def execIllegal3C (s : State) : Result := illegalOpcode 0x3C#8 s

/-- $3F, undefined (46_flags_nop_illegal.md R248). -/
def execIllegal3F (s : State) : Result := illegalOpcode 0x3F#8 s

/-- $42, undefined (46_flags_nop_illegal.md R248). -/
def execIllegal42 (s : State) : Result := illegalOpcode 0x42#8 s

/-- $43, undefined (46_flags_nop_illegal.md R248). -/
def execIllegal43 (s : State) : Result := illegalOpcode 0x43#8 s

/-- $44, undefined (46_flags_nop_illegal.md R248). -/
def execIllegal44 (s : State) : Result := illegalOpcode 0x44#8 s

/-- $47, undefined (46_flags_nop_illegal.md R248). -/
def execIllegal47 (s : State) : Result := illegalOpcode 0x47#8 s

/-- $4B, undefined (46_flags_nop_illegal.md R248). -/
def execIllegal4B (s : State) : Result := illegalOpcode 0x4B#8 s

/-- $4F, undefined (46_flags_nop_illegal.md R248). -/
def execIllegal4F (s : State) : Result := illegalOpcode 0x4F#8 s

/-- $52, undefined (46_flags_nop_illegal.md R248). -/
def execIllegal52 (s : State) : Result := illegalOpcode 0x52#8 s

/-- $53, undefined (46_flags_nop_illegal.md R248). -/
def execIllegal53 (s : State) : Result := illegalOpcode 0x53#8 s

/-- $54, undefined (46_flags_nop_illegal.md R248). -/
def execIllegal54 (s : State) : Result := illegalOpcode 0x54#8 s

/-- $57, undefined (46_flags_nop_illegal.md R248). -/
def execIllegal57 (s : State) : Result := illegalOpcode 0x57#8 s

/-- $5A, undefined (46_flags_nop_illegal.md R248). -/
def execIllegal5A (s : State) : Result := illegalOpcode 0x5A#8 s

/-- $5B, undefined (46_flags_nop_illegal.md R248). -/
def execIllegal5B (s : State) : Result := illegalOpcode 0x5B#8 s

/-- $5C, undefined (46_flags_nop_illegal.md R248). -/
def execIllegal5C (s : State) : Result := illegalOpcode 0x5C#8 s

/-- $5F, undefined (46_flags_nop_illegal.md R248). -/
def execIllegal5F (s : State) : Result := illegalOpcode 0x5F#8 s

/-- $62, undefined (46_flags_nop_illegal.md R248). -/
def execIllegal62 (s : State) : Result := illegalOpcode 0x62#8 s

/-- $63, undefined (46_flags_nop_illegal.md R248). -/
def execIllegal63 (s : State) : Result := illegalOpcode 0x63#8 s

/-- $64, undefined (46_flags_nop_illegal.md R248). -/
def execIllegal64 (s : State) : Result := illegalOpcode 0x64#8 s

/-- $67, undefined (46_flags_nop_illegal.md R248). -/
def execIllegal67 (s : State) : Result := illegalOpcode 0x67#8 s

/-- $6B, undefined (46_flags_nop_illegal.md R248). -/
def execIllegal6B (s : State) : Result := illegalOpcode 0x6B#8 s

/-- $6F, undefined (46_flags_nop_illegal.md R248). -/
def execIllegal6F (s : State) : Result := illegalOpcode 0x6F#8 s

/-- $72, undefined (46_flags_nop_illegal.md R248). -/
def execIllegal72 (s : State) : Result := illegalOpcode 0x72#8 s

/-- $73, undefined (46_flags_nop_illegal.md R248). -/
def execIllegal73 (s : State) : Result := illegalOpcode 0x73#8 s

/-- $74, undefined (46_flags_nop_illegal.md R248). -/
def execIllegal74 (s : State) : Result := illegalOpcode 0x74#8 s

/-- $77, undefined (46_flags_nop_illegal.md R248). -/
def execIllegal77 (s : State) : Result := illegalOpcode 0x77#8 s

/-- $7A, undefined (46_flags_nop_illegal.md R248). -/
def execIllegal7A (s : State) : Result := illegalOpcode 0x7A#8 s

/-- $7B, undefined (46_flags_nop_illegal.md R248). -/
def execIllegal7B (s : State) : Result := illegalOpcode 0x7B#8 s

/-- $7C, undefined (46_flags_nop_illegal.md R248). -/
def execIllegal7C (s : State) : Result := illegalOpcode 0x7C#8 s

/-- $7F, undefined (46_flags_nop_illegal.md R248). -/
def execIllegal7F (s : State) : Result := illegalOpcode 0x7F#8 s

/-- $80, undefined (46_flags_nop_illegal.md R248). -/
def execIllegal80 (s : State) : Result := illegalOpcode 0x80#8 s

/-- $82, undefined (46_flags_nop_illegal.md R248). -/
def execIllegal82 (s : State) : Result := illegalOpcode 0x82#8 s

/-- $83, undefined (46_flags_nop_illegal.md R248). -/
def execIllegal83 (s : State) : Result := illegalOpcode 0x83#8 s

/-- $87, undefined (46_flags_nop_illegal.md R248). -/
def execIllegal87 (s : State) : Result := illegalOpcode 0x87#8 s

/-- $89, undefined (46_flags_nop_illegal.md R248). -/
def execIllegal89 (s : State) : Result := illegalOpcode 0x89#8 s

/-- $8B, undefined (46_flags_nop_illegal.md R248). -/
def execIllegal8B (s : State) : Result := illegalOpcode 0x8B#8 s

/-- $8F, undefined (46_flags_nop_illegal.md R248). -/
def execIllegal8F (s : State) : Result := illegalOpcode 0x8F#8 s

/-- $92, undefined (46_flags_nop_illegal.md R248). -/
def execIllegal92 (s : State) : Result := illegalOpcode 0x92#8 s

/-- $93, undefined (46_flags_nop_illegal.md R248). -/
def execIllegal93 (s : State) : Result := illegalOpcode 0x93#8 s

/-- $97, undefined (46_flags_nop_illegal.md R248). -/
def execIllegal97 (s : State) : Result := illegalOpcode 0x97#8 s

/-- $9B, undefined (46_flags_nop_illegal.md R248). -/
def execIllegal9B (s : State) : Result := illegalOpcode 0x9B#8 s

/-- $9C, undefined (46_flags_nop_illegal.md R248). -/
def execIllegal9C (s : State) : Result := illegalOpcode 0x9C#8 s

/-- $9E, undefined (46_flags_nop_illegal.md R248). -/
def execIllegal9E (s : State) : Result := illegalOpcode 0x9E#8 s

/-- $9F, undefined (46_flags_nop_illegal.md R248). -/
def execIllegal9F (s : State) : Result := illegalOpcode 0x9F#8 s

/-- $A3, undefined (46_flags_nop_illegal.md R248). -/
def execIllegalA3 (s : State) : Result := illegalOpcode 0xA3#8 s

/-- $A7, undefined (46_flags_nop_illegal.md R248). -/
def execIllegalA7 (s : State) : Result := illegalOpcode 0xA7#8 s

/-- $AB, undefined (46_flags_nop_illegal.md R248). -/
def execIllegalAB (s : State) : Result := illegalOpcode 0xAB#8 s

/-- $AF, undefined (46_flags_nop_illegal.md R248). -/
def execIllegalAF (s : State) : Result := illegalOpcode 0xAF#8 s

/-- $B2, undefined (46_flags_nop_illegal.md R248). -/
def execIllegalB2 (s : State) : Result := illegalOpcode 0xB2#8 s

/-- $B3, undefined (46_flags_nop_illegal.md R248). -/
def execIllegalB3 (s : State) : Result := illegalOpcode 0xB3#8 s

/-- $B7, undefined (46_flags_nop_illegal.md R248). -/
def execIllegalB7 (s : State) : Result := illegalOpcode 0xB7#8 s

/-- $BB, undefined (46_flags_nop_illegal.md R248). -/
def execIllegalBB (s : State) : Result := illegalOpcode 0xBB#8 s

/-- $BF, undefined (46_flags_nop_illegal.md R248). -/
def execIllegalBF (s : State) : Result := illegalOpcode 0xBF#8 s

/-- $C2, undefined (46_flags_nop_illegal.md R248). -/
def execIllegalC2 (s : State) : Result := illegalOpcode 0xC2#8 s

/-- $C3, undefined (46_flags_nop_illegal.md R248). -/
def execIllegalC3 (s : State) : Result := illegalOpcode 0xC3#8 s

/-- $C7, undefined (46_flags_nop_illegal.md R248). -/
def execIllegalC7 (s : State) : Result := illegalOpcode 0xC7#8 s

/-- $CB, undefined (46_flags_nop_illegal.md R248). -/
def execIllegalCB (s : State) : Result := illegalOpcode 0xCB#8 s

/-- $CF, undefined (46_flags_nop_illegal.md R248). -/
def execIllegalCF (s : State) : Result := illegalOpcode 0xCF#8 s

/-- $D2, undefined (46_flags_nop_illegal.md R248). -/
def execIllegalD2 (s : State) : Result := illegalOpcode 0xD2#8 s

/-- $D3, undefined (46_flags_nop_illegal.md R248). -/
def execIllegalD3 (s : State) : Result := illegalOpcode 0xD3#8 s

/-- $D4, undefined (46_flags_nop_illegal.md R248). -/
def execIllegalD4 (s : State) : Result := illegalOpcode 0xD4#8 s

/-- $D7, undefined (46_flags_nop_illegal.md R248). -/
def execIllegalD7 (s : State) : Result := illegalOpcode 0xD7#8 s

/-- $DA, undefined (46_flags_nop_illegal.md R248). -/
def execIllegalDA (s : State) : Result := illegalOpcode 0xDA#8 s

/-- $DB, undefined (46_flags_nop_illegal.md R248). -/
def execIllegalDB (s : State) : Result := illegalOpcode 0xDB#8 s

/-- $DC, undefined (46_flags_nop_illegal.md R248). -/
def execIllegalDC (s : State) : Result := illegalOpcode 0xDC#8 s

/-- $DF, undefined (46_flags_nop_illegal.md R248). -/
def execIllegalDF (s : State) : Result := illegalOpcode 0xDF#8 s

/-- $E2, undefined (46_flags_nop_illegal.md R248). -/
def execIllegalE2 (s : State) : Result := illegalOpcode 0xE2#8 s

/-- $E3, undefined (46_flags_nop_illegal.md R248). -/
def execIllegalE3 (s : State) : Result := illegalOpcode 0xE3#8 s

/-- $E7, undefined (46_flags_nop_illegal.md R248). -/
def execIllegalE7 (s : State) : Result := illegalOpcode 0xE7#8 s

/-- $EB, undefined (46_flags_nop_illegal.md R248). -/
def execIllegalEB (s : State) : Result := illegalOpcode 0xEB#8 s

/-- $EF, undefined (46_flags_nop_illegal.md R248). -/
def execIllegalEF (s : State) : Result := illegalOpcode 0xEF#8 s

/-- $F2, undefined (46_flags_nop_illegal.md R248). -/
def execIllegalF2 (s : State) : Result := illegalOpcode 0xF2#8 s

/-- $F3, undefined (46_flags_nop_illegal.md R248). -/
def execIllegalF3 (s : State) : Result := illegalOpcode 0xF3#8 s

/-- $F4, undefined (46_flags_nop_illegal.md R248). -/
def execIllegalF4 (s : State) : Result := illegalOpcode 0xF4#8 s

/-- $F7, undefined (46_flags_nop_illegal.md R248). -/
def execIllegalF7 (s : State) : Result := illegalOpcode 0xF7#8 s

/-- $FA, undefined (46_flags_nop_illegal.md R248). -/
def execIllegalFA (s : State) : Result := illegalOpcode 0xFA#8 s

/-- $FB, undefined (46_flags_nop_illegal.md R248). -/
def execIllegalFB (s : State) : Result := illegalOpcode 0xFB#8 s

/-- $FC, undefined (46_flags_nop_illegal.md R248). -/
def execIllegalFC (s : State) : Result := illegalOpcode 0xFC#8 s

/-- $FF, undefined (46_flags_nop_illegal.md R248). -/
def execIllegalFF (s : State) : Result := illegalOpcode 0xFF#8 s

end Sys2Proof.Machine
end

