-- ==== Sys2Proof/Machine/LoadStore.lean ====
section
/-! DEFINITION. Loads, stores and register transfers (41_load_store_transfer.md). -/

namespace Sys2Proof.Machine

/-- LDA: `A <- operand(); SetZN(A)` (R150). -/
def lda (op : Byte) (o : Operand) (s : State) : State :=
  let r := readOperand o s
  charge op r.cross false (setP (setA r.state r.value) (setZN r.state.cpu.p r.value))

/-- LDX: `X <- operand(); SetZN(X)` (R151). -/
def ldx (op : Byte) (o : Operand) (s : State) : State :=
  let r := readOperand o s
  charge op r.cross false (setP (setX r.state r.value) (setZN r.state.cpu.p r.value))

/-- LDY: `Y <- operand(); SetZN(Y)` (R152). -/
def ldy (op : Byte) (o : Operand) (s : State) : State :=
  let r := readOperand o s
  charge op r.cross false (setP (setY r.state r.value) (setZN r.state.cpu.p r.value))

/-- A store of `v`: `MemWrite(ea, 1, v)` with no read of `ea` (R153 to R155). -/
def store (op : Byte) (m : MemOperand) (v : Byte) (s : State) : State :=
  let e := address m s
  charge op e.cross false (memWrite e.state e.ea v)

/-- A transfer of `v` into `A`, with `SetZN` (R158, R159). -/
def transferA (op : Byte) (v : Byte) (s : State) : State := charge op false false (setP (setA s v) (setZN s.cpu.p v))

/-- A transfer of `v` into `X`, with `SetZN` (R156, R160). -/
def transferX (op : Byte) (v : Byte) (s : State) : State := charge op false false (setP (setX s v) (setZN s.cpu.p v))

/-- A transfer of `v` into `Y`, with `SetZN` (R157). -/
def transferY (op : Byte) (v : Byte) (s : State) : State := charge op false false (setP (setY s v) (setZN s.cpu.p v))

/-- TXS: `SP <- X`, no flag (R161). -/
def txs (op : Byte) (s : State) : State := charge op false false (setSp s s.cpu.x)

/-- $A1 `LDA ($nn,X)` (41_load_store_transfer.md R150). -/
def execLdaIzx (z : Byte) (s : State) : Result := .next (lda 0xA1#8 (.mem (.izx z)) s)

/-- $A5 `LDA $nn` (41_load_store_transfer.md R150). -/
def execLdaZp (z : Byte) (s : State) : Result := .next (lda 0xA5#8 (.mem (.zp z)) s)

/-- $A9 `LDA #$nn` (41_load_store_transfer.md R150). -/
def execLdaImm (v : Byte) (s : State) : Result := .next (lda 0xA9#8 (.imm v) s)

/-- $AD `LDA $nnnn` (41_load_store_transfer.md R150). -/
def execLdaAbs (w : Word) (s : State) : Result := .next (lda 0xAD#8 (.mem (.abs w)) s)

/-- $B1 `LDA ($nn),Y` (41_load_store_transfer.md R150). -/
def execLdaIzy (z : Byte) (s : State) : Result := .next (lda 0xB1#8 (.mem (.izy z)) s)

/-- $B5 `LDA $nn,X` (41_load_store_transfer.md R150). -/
def execLdaZpx (z : Byte) (s : State) : Result := .next (lda 0xB5#8 (.mem (.zpx z)) s)

/-- $B9 `LDA $nnnn,Y` (41_load_store_transfer.md R150). -/
def execLdaAby (w : Word) (s : State) : Result := .next (lda 0xB9#8 (.mem (.aby w)) s)

/-- $BD `LDA $nnnn,X` (41_load_store_transfer.md R150). -/
def execLdaAbx (w : Word) (s : State) : Result := .next (lda 0xBD#8 (.mem (.abx w)) s)

/-- $A2 `LDX #$nn` (41_load_store_transfer.md R151). -/
def execLdxImm (v : Byte) (s : State) : Result := .next (ldx 0xA2#8 (.imm v) s)

/-- $A6 `LDX $nn` (41_load_store_transfer.md R151). -/
def execLdxZp (z : Byte) (s : State) : Result := .next (ldx 0xA6#8 (.mem (.zp z)) s)

/-- $AE `LDX $nnnn` (41_load_store_transfer.md R151). -/
def execLdxAbs (w : Word) (s : State) : Result := .next (ldx 0xAE#8 (.mem (.abs w)) s)

/-- $B6 `LDX $nn,Y` (41_load_store_transfer.md R151). -/
def execLdxZpy (z : Byte) (s : State) : Result := .next (ldx 0xB6#8 (.mem (.zpy z)) s)

/-- $BE `LDX $nnnn,Y` (41_load_store_transfer.md R151). -/
def execLdxAby (w : Word) (s : State) : Result := .next (ldx 0xBE#8 (.mem (.aby w)) s)

/-- $A0 `LDY #$nn` (41_load_store_transfer.md R152). -/
def execLdyImm (v : Byte) (s : State) : Result := .next (ldy 0xA0#8 (.imm v) s)

/-- $A4 `LDY $nn` (41_load_store_transfer.md R152). -/
def execLdyZp (z : Byte) (s : State) : Result := .next (ldy 0xA4#8 (.mem (.zp z)) s)

/-- $AC `LDY $nnnn` (41_load_store_transfer.md R152). -/
def execLdyAbs (w : Word) (s : State) : Result := .next (ldy 0xAC#8 (.mem (.abs w)) s)

/-- $B4 `LDY $nn,X` (41_load_store_transfer.md R152). -/
def execLdyZpx (z : Byte) (s : State) : Result := .next (ldy 0xB4#8 (.mem (.zpx z)) s)

/-- $BC `LDY $nnnn,X` (41_load_store_transfer.md R152). -/
def execLdyAbx (w : Word) (s : State) : Result := .next (ldy 0xBC#8 (.mem (.abx w)) s)

/-- $81 `STA ($nn,X)` (41_load_store_transfer.md R153). -/
def execStaIzx (z : Byte) (s : State) : Result := .next (store 0x81#8 (.izx z) s.cpu.a s)

/-- $85 `STA $nn` (41_load_store_transfer.md R153). -/
def execStaZp (z : Byte) (s : State) : Result := .next (store 0x85#8 (.zp z) s.cpu.a s)

/-- $8D `STA $nnnn` (41_load_store_transfer.md R153). -/
def execStaAbs (w : Word) (s : State) : Result := .next (store 0x8D#8 (.abs w) s.cpu.a s)

/-- $91 `STA ($nn),Y` (41_load_store_transfer.md R153). -/
def execStaIzy (z : Byte) (s : State) : Result := .next (store 0x91#8 (.izy z) s.cpu.a s)

/-- $95 `STA $nn,X` (41_load_store_transfer.md R153). -/
def execStaZpx (z : Byte) (s : State) : Result := .next (store 0x95#8 (.zpx z) s.cpu.a s)

/-- $99 `STA $nnnn,Y` (41_load_store_transfer.md R153). -/
def execStaAby (w : Word) (s : State) : Result := .next (store 0x99#8 (.aby w) s.cpu.a s)

/-- $9D `STA $nnnn,X` (41_load_store_transfer.md R153). -/
def execStaAbx (w : Word) (s : State) : Result := .next (store 0x9D#8 (.abx w) s.cpu.a s)

/-- $86 `STX $nn` (41_load_store_transfer.md R154). -/
def execStxZp (z : Byte) (s : State) : Result := .next (store 0x86#8 (.zp z) s.cpu.x s)

/-- $8E `STX $nnnn` (41_load_store_transfer.md R154). -/
def execStxAbs (w : Word) (s : State) : Result := .next (store 0x8E#8 (.abs w) s.cpu.x s)

/-- $96 `STX $nn,Y` (41_load_store_transfer.md R154). -/
def execStxZpy (z : Byte) (s : State) : Result := .next (store 0x96#8 (.zpy z) s.cpu.x s)

/-- $84 `STY $nn` (41_load_store_transfer.md R155). -/
def execStyZp (z : Byte) (s : State) : Result := .next (store 0x84#8 (.zp z) s.cpu.y s)

/-- $8C `STY $nnnn` (41_load_store_transfer.md R155). -/
def execStyAbs (w : Word) (s : State) : Result := .next (store 0x8C#8 (.abs w) s.cpu.y s)

/-- $94 `STY $nn,X` (41_load_store_transfer.md R155). -/
def execStyZpx (z : Byte) (s : State) : Result := .next (store 0x94#8 (.zpx z) s.cpu.y s)

/-- $AA `TAX` (41_load_store_transfer.md R156). -/
def execTax (s : State) : Result := .next (transferX 0xAA#8 s.cpu.a s)

/-- $A8 `TAY` (41_load_store_transfer.md R157). -/
def execTay (s : State) : Result := .next (transferY 0xA8#8 s.cpu.a s)

/-- $8A `TXA` (41_load_store_transfer.md R158). -/
def execTxa (s : State) : Result := .next (transferA 0x8A#8 s.cpu.x s)

/-- $98 `TYA` (41_load_store_transfer.md R159). -/
def execTya (s : State) : Result := .next (transferA 0x98#8 s.cpu.y s)

/-- $BA `TSX` (41_load_store_transfer.md R160). -/
def execTsx (s : State) : Result := .next (transferX 0xBA#8 s.cpu.sp s)

/-- $9A `TXS` (41_load_store_transfer.md R161). -/
def execTxs (s : State) : Result := .next (txs 0x9A#8 s)

end Sys2Proof.Machine
end

