-- ==== Sys2Proof/Machine/Shift.lean ====
section
/-! DEFINITION. Shifts, rotates, increments and decrements (44_shift_incdec.md). -/

namespace Sys2Proof.Machine

/-- The flags of a shift: the carry it computes, and `SetZN` of its result (R200 to R203). -/
def shiftFlags (p : Byte) (r : ShiftOut) : Byte := setZN (setC p r.carry) r.result

/-- A shift or rotate of `A` (R200 to R203, mode acc). -/
def shiftA (op : Byte) (f : Byte → Bool → ShiftOut) (s : State) : State :=
  let r := f s.cpu.a (flagC s.cpu.p)
  charge op false false (setA (setP s (shiftFlags s.cpu.p r)) r.result)

/-- A shift or rotate of memory: one read and one write of `ea` (R200 to R203, R210). -/
def shiftMem (op : Byte) (f : Byte → Bool → ShiftOut) (m : MemOperand) (s : State) : State :=
  let e := address m s
  let v := memRead e.state e.ea
  let r := f v.value (flagC v.state.cpu.p)
  charge op e.cross false (memWrite (setP v.state (shiftFlags v.state.cpu.p r)) e.ea r.result)

/-- INC and DEC: one read and one write of `ea`, the byte moved by `d` (R204, R205, R210). -/
def stepMem (op : Byte) (d : Byte) (m : MemOperand) (s : State) : State :=
  let e := address m s
  let v := memRead e.state e.ea
  let r := v.value + d
  charge op e.cross false (memWrite (setP v.state (setZN v.state.cpu.p r)) e.ea r)

/-- INX and DEX: `X` moved by `d` (R206, R208). -/
def stepX (op : Byte) (d : Byte) (s : State) : State :=
  let r := s.cpu.x + d
  charge op false false (setP (setX s r) (setZN s.cpu.p r))

/-- INY and DEY: `Y` moved by `d` (R207, R209). -/
def stepY (op : Byte) (d : Byte) (s : State) : State :=
  let r := s.cpu.y + d
  charge op false false (setP (setY s r) (setZN s.cpu.p r))

/-- $06 `ASL $nn` (44_shift_incdec.md R200). -/
def execAslZp (z : Byte) (s : State) : Result := .next (shiftMem 0x06#8 aslOut (.zp z) s)

/-- $0A `ASL A` (44_shift_incdec.md R200). -/
def execAslAcc (s : State) : Result := .next (shiftA 0x0A#8 aslOut s)

/-- $0E `ASL $nnnn` (44_shift_incdec.md R200). -/
def execAslAbs (w : Word) (s : State) : Result := .next (shiftMem 0x0E#8 aslOut (.abs w) s)

/-- $16 `ASL $nn,X` (44_shift_incdec.md R200). -/
def execAslZpx (z : Byte) (s : State) : Result := .next (shiftMem 0x16#8 aslOut (.zpx z) s)

/-- $1E `ASL $nnnn,X` (44_shift_incdec.md R200). -/
def execAslAbx (w : Word) (s : State) : Result := .next (shiftMem 0x1E#8 aslOut (.abx w) s)

/-- $46 `LSR $nn` (44_shift_incdec.md R201). -/
def execLsrZp (z : Byte) (s : State) : Result := .next (shiftMem 0x46#8 lsrOut (.zp z) s)

/-- $4A `LSR A` (44_shift_incdec.md R201). -/
def execLsrAcc (s : State) : Result := .next (shiftA 0x4A#8 lsrOut s)

/-- $4E `LSR $nnnn` (44_shift_incdec.md R201). -/
def execLsrAbs (w : Word) (s : State) : Result := .next (shiftMem 0x4E#8 lsrOut (.abs w) s)

/-- $56 `LSR $nn,X` (44_shift_incdec.md R201). -/
def execLsrZpx (z : Byte) (s : State) : Result := .next (shiftMem 0x56#8 lsrOut (.zpx z) s)

/-- $5E `LSR $nnnn,X` (44_shift_incdec.md R201). -/
def execLsrAbx (w : Word) (s : State) : Result := .next (shiftMem 0x5E#8 lsrOut (.abx w) s)

/-- $26 `ROL $nn` (44_shift_incdec.md R202). -/
def execRolZp (z : Byte) (s : State) : Result := .next (shiftMem 0x26#8 rolOut (.zp z) s)

/-- $2A `ROL A` (44_shift_incdec.md R202). -/
def execRolAcc (s : State) : Result := .next (shiftA 0x2A#8 rolOut s)

/-- $2E `ROL $nnnn` (44_shift_incdec.md R202). -/
def execRolAbs (w : Word) (s : State) : Result := .next (shiftMem 0x2E#8 rolOut (.abs w) s)

/-- $36 `ROL $nn,X` (44_shift_incdec.md R202). -/
def execRolZpx (z : Byte) (s : State) : Result := .next (shiftMem 0x36#8 rolOut (.zpx z) s)

/-- $3E `ROL $nnnn,X` (44_shift_incdec.md R202). -/
def execRolAbx (w : Word) (s : State) : Result := .next (shiftMem 0x3E#8 rolOut (.abx w) s)

/-- $66 `ROR $nn` (44_shift_incdec.md R203). -/
def execRorZp (z : Byte) (s : State) : Result := .next (shiftMem 0x66#8 rorOut (.zp z) s)

/-- $6A `ROR A` (44_shift_incdec.md R203). -/
def execRorAcc (s : State) : Result := .next (shiftA 0x6A#8 rorOut s)

/-- $6E `ROR $nnnn` (44_shift_incdec.md R203). -/
def execRorAbs (w : Word) (s : State) : Result := .next (shiftMem 0x6E#8 rorOut (.abs w) s)

/-- $76 `ROR $nn,X` (44_shift_incdec.md R203). -/
def execRorZpx (z : Byte) (s : State) : Result := .next (shiftMem 0x76#8 rorOut (.zpx z) s)

/-- $7E `ROR $nnnn,X` (44_shift_incdec.md R203). -/
def execRorAbx (w : Word) (s : State) : Result := .next (shiftMem 0x7E#8 rorOut (.abx w) s)

/-- $E6 `INC $nn` (44_shift_incdec.md R204). -/
def execIncZp (z : Byte) (s : State) : Result := .next (stepMem 0xE6#8 1#8 (.zp z) s)

/-- $EE `INC $nnnn` (44_shift_incdec.md R204). -/
def execIncAbs (w : Word) (s : State) : Result := .next (stepMem 0xEE#8 1#8 (.abs w) s)

/-- $F6 `INC $nn,X` (44_shift_incdec.md R204). -/
def execIncZpx (z : Byte) (s : State) : Result := .next (stepMem 0xF6#8 1#8 (.zpx z) s)

/-- $FE `INC $nnnn,X` (44_shift_incdec.md R204). -/
def execIncAbx (w : Word) (s : State) : Result := .next (stepMem 0xFE#8 1#8 (.abx w) s)

/-- $C6 `DEC $nn` (44_shift_incdec.md R205). -/
def execDecZp (z : Byte) (s : State) : Result := .next (stepMem 0xC6#8 0xFF#8 (.zp z) s)

/-- $CE `DEC $nnnn` (44_shift_incdec.md R205). -/
def execDecAbs (w : Word) (s : State) : Result := .next (stepMem 0xCE#8 0xFF#8 (.abs w) s)

/-- $D6 `DEC $nn,X` (44_shift_incdec.md R205). -/
def execDecZpx (z : Byte) (s : State) : Result := .next (stepMem 0xD6#8 0xFF#8 (.zpx z) s)

/-- $DE `DEC $nnnn,X` (44_shift_incdec.md R205). -/
def execDecAbx (w : Word) (s : State) : Result := .next (stepMem 0xDE#8 0xFF#8 (.abx w) s)

/-- $E8 `INX` (44_shift_incdec.md R206). -/
def execInx (s : State) : Result := .next (stepX 0xE8#8 1#8 s)

/-- $C8 `INY` (44_shift_incdec.md R207). -/
def execIny (s : State) : Result := .next (stepY 0xC8#8 1#8 s)

/-- $CA `DEX` (44_shift_incdec.md R208). -/
def execDex (s : State) : Result := .next (stepX 0xCA#8 0xFF#8 s)

/-- $88 `DEY` (44_shift_incdec.md R209). -/
def execDey (s : State) : Result := .next (stepY 0x88#8 0xFF#8 s)

end Sys2Proof.Machine
end

