-- ==== Sys2Proof/Machine/Stack.lean ====
section
/-! DEFINITION. The stack instructions (42_stack.md). -/

namespace Sys2Proof.Machine

/-- A push of `v` (R172, R173). -/
def push (op : Byte) (v : Byte) (s : State) : State := charge op false false (push8 s v)

/-- PLA: `A <- Pop8(); SetZN(A)` (R174). -/
def pla (op : Byte) (s : State) : State :=
  let r := pop8 s
  charge op false false (setP (setA r.state r.value) (setZN r.state.cpu.p r.value))

/-- PLP: the six flags from the popped byte (R175). -/
def plp (op : Byte) (s : State) : State :=
  let r := pop8 s
  charge op false false (setP r.state (plpFlags r.state.cpu.p r.value))

/-- $48 `PHA` (42_stack.md R172). -/
def execPha (s : State) : Result := .next (push 0x48#8 s.cpu.a s)

/-- $08 `PHP` (42_stack.md R173). -/
def execPhp (s : State) : Result := .next (push 0x08#8 (pushedBySoftware s.cpu.p) s)

/-- $68 `PLA` (42_stack.md R174). -/
def execPla (s : State) : Result := .next (pla 0x68#8 s)

/-- $28 `PLP` (42_stack.md R175). -/
def execPlp (s : State) : Result := .next (plp 0x28#8 s)

end Sys2Proof.Machine
end

