-- ==== Sys2Proof/Syntax.lean ====
section
/-! DEFINITION. The instructions: one constructor for each of the 256 rows of the opcode table, first the 151
defined opcodes, then the 105 undefined bytes (30_encoding.md R114, R116), with the operand bytes of its format (R111): `v` an immediate byte, `z` a zero-page
address or pointer, `w` a 16-bit address, `off` a branch offset. -/

namespace Sys2Proof

/-- The instructions of 30_encoding.md R114 and the undefined opcode bytes of R116. -/
inductive Instr where
  /-- $00 `BRK` (R232, R131). -/
  | brk
  /-- $01 `ORA ($nn,X)` (R183, R139). -/
  | oraIzx (z : Byte)
  /-- $05 `ORA $nn` (R183, R134). -/
  | oraZp (z : Byte)
  /-- $06 `ASL $nn` (R200, R134). -/
  | aslZp (z : Byte)
  /-- $08 `PHP` (R173, R131). -/
  | php
  /-- $09 `ORA #$nn` (R183, R133). -/
  | oraImm (v : Byte)
  /-- $0A `ASL A` (R200, R132). -/
  | aslAcc
  /-- $0D `ORA $nnnn` (R183, R137). -/
  | oraAbs (w : Word)
  /-- $0E `ASL $nnnn` (R200, R137). -/
  | aslAbs (w : Word)
  /-- $10 `BPL label` (R229, R143). -/
  | bpl (off : Byte)
  /-- $11 `ORA ($nn),Y` (R183, R140). -/
  | oraIzy (z : Byte)
  /-- $15 `ORA $nn,X` (R183, R135). -/
  | oraZpx (z : Byte)
  /-- $16 `ASL $nn,X` (R200, R135). -/
  | aslZpx (z : Byte)
  /-- $18 `CLC` (R240, R131). -/
  | clc
  /-- $19 `ORA $nnnn,Y` (R183, R142). -/
  | oraAby (w : Word)
  /-- $1D `ORA $nnnn,X` (R183, R141). -/
  | oraAbx (w : Word)
  /-- $1E `ASL $nnnn,X` (R200, R141). -/
  | aslAbx (w : Word)
  /-- $20 `JSR $nnnn` (R221, R137). -/
  | jsr (w : Word)
  /-- $21 `AND ($nn,X)` (R182, R139). -/
  | andIzx (z : Byte)
  /-- $24 `BIT $nn` (R188, R134). -/
  | bitZp (z : Byte)
  /-- $25 `AND $nn` (R182, R134). -/
  | andZp (z : Byte)
  /-- $26 `ROL $nn` (R202, R134). -/
  | rolZp (z : Byte)
  /-- $28 `PLP` (R175, R131). -/
  | plp
  /-- $29 `AND #$nn` (R182, R133). -/
  | andImm (v : Byte)
  /-- $2A `ROL A` (R202, R132). -/
  | rolAcc
  /-- $2C `BIT $nnnn` (R188, R137). -/
  | bitAbs (w : Word)
  /-- $2D `AND $nnnn` (R182, R137). -/
  | andAbs (w : Word)
  /-- $2E `ROL $nnnn` (R202, R137). -/
  | rolAbs (w : Word)
  /-- $30 `BMI label` (R228, R143). -/
  | bmi (off : Byte)
  /-- $31 `AND ($nn),Y` (R182, R140). -/
  | andIzy (z : Byte)
  /-- $35 `AND $nn,X` (R182, R135). -/
  | andZpx (z : Byte)
  /-- $36 `ROL $nn,X` (R202, R135). -/
  | rolZpx (z : Byte)
  /-- $38 `SEC` (R241, R131). -/
  | sec
  /-- $39 `AND $nnnn,Y` (R182, R142). -/
  | andAby (w : Word)
  /-- $3D `AND $nnnn,X` (R182, R141). -/
  | andAbx (w : Word)
  /-- $3E `ROL $nnnn,X` (R202, R141). -/
  | rolAbx (w : Word)
  /-- $40 `RTI` (R233, R131). -/
  | rti
  /-- $41 `EOR ($nn,X)` (R184, R139). -/
  | eorIzx (z : Byte)
  /-- $45 `EOR $nn` (R184, R134). -/
  | eorZp (z : Byte)
  /-- $46 `LSR $nn` (R201, R134). -/
  | lsrZp (z : Byte)
  /-- $48 `PHA` (R172, R131). -/
  | pha
  /-- $49 `EOR #$nn` (R184, R133). -/
  | eorImm (v : Byte)
  /-- $4A `LSR A` (R201, R132). -/
  | lsrAcc
  /-- $4C `JMP $nnnn` (R220, R137). -/
  | jmpAbs (w : Word)
  /-- $4D `EOR $nnnn` (R184, R137). -/
  | eorAbs (w : Word)
  /-- $4E `LSR $nnnn` (R201, R137). -/
  | lsrAbs (w : Word)
  /-- $50 `BVC label` (R230, R143). -/
  | bvc (off : Byte)
  /-- $51 `EOR ($nn),Y` (R184, R140). -/
  | eorIzy (z : Byte)
  /-- $55 `EOR $nn,X` (R184, R135). -/
  | eorZpx (z : Byte)
  /-- $56 `LSR $nn,X` (R201, R135). -/
  | lsrZpx (z : Byte)
  /-- $58 `CLI` (R242, R131). -/
  | cli
  /-- $59 `EOR $nnnn,Y` (R184, R142). -/
  | eorAby (w : Word)
  /-- $5D `EOR $nnnn,X` (R184, R141). -/
  | eorAbx (w : Word)
  /-- $5E `LSR $nnnn,X` (R201, R141). -/
  | lsrAbx (w : Word)
  /-- $60 `RTS` (R222, R131). -/
  | rts
  /-- $61 `ADC ($nn,X)` (R180, R139). -/
  | adcIzx (z : Byte)
  /-- $65 `ADC $nn` (R180, R134). -/
  | adcZp (z : Byte)
  /-- $66 `ROR $nn` (R203, R134). -/
  | rorZp (z : Byte)
  /-- $68 `PLA` (R174, R131). -/
  | pla
  /-- $69 `ADC #$nn` (R180, R133). -/
  | adcImm (v : Byte)
  /-- $6A `ROR A` (R203, R132). -/
  | rorAcc
  /-- $6C `JMP ($nnnn)` (R220, R138). -/
  | jmpInd (w : Word)
  /-- $6D `ADC $nnnn` (R180, R137). -/
  | adcAbs (w : Word)
  /-- $6E `ROR $nnnn` (R203, R137). -/
  | rorAbs (w : Word)
  /-- $70 `BVS label` (R231, R143). -/
  | bvs (off : Byte)
  /-- $71 `ADC ($nn),Y` (R180, R140). -/
  | adcIzy (z : Byte)
  /-- $75 `ADC $nn,X` (R180, R135). -/
  | adcZpx (z : Byte)
  /-- $76 `ROR $nn,X` (R203, R135). -/
  | rorZpx (z : Byte)
  /-- $78 `SEI` (R243, R131). -/
  | sei
  /-- $79 `ADC $nnnn,Y` (R180, R142). -/
  | adcAby (w : Word)
  /-- $7D `ADC $nnnn,X` (R180, R141). -/
  | adcAbx (w : Word)
  /-- $7E `ROR $nnnn,X` (R203, R141). -/
  | rorAbx (w : Word)
  /-- $81 `STA ($nn,X)` (R153, R139). -/
  | staIzx (z : Byte)
  /-- $84 `STY $nn` (R155, R134). -/
  | styZp (z : Byte)
  /-- $85 `STA $nn` (R153, R134). -/
  | staZp (z : Byte)
  /-- $86 `STX $nn` (R154, R134). -/
  | stxZp (z : Byte)
  /-- $88 `DEY` (R209, R131). -/
  | dey
  /-- $8A `TXA` (R158, R131). -/
  | txa
  /-- $8C `STY $nnnn` (R155, R137). -/
  | styAbs (w : Word)
  /-- $8D `STA $nnnn` (R153, R137). -/
  | staAbs (w : Word)
  /-- $8E `STX $nnnn` (R154, R137). -/
  | stxAbs (w : Word)
  /-- $90 `BCC label` (R224, R143). -/
  | bcc (off : Byte)
  /-- $91 `STA ($nn),Y` (R153, R140). -/
  | staIzy (z : Byte)
  /-- $94 `STY $nn,X` (R155, R135). -/
  | styZpx (z : Byte)
  /-- $95 `STA $nn,X` (R153, R135). -/
  | staZpx (z : Byte)
  /-- $96 `STX $nn,Y` (R154, R136). -/
  | stxZpy (z : Byte)
  /-- $98 `TYA` (R159, R131). -/
  | tya
  /-- $99 `STA $nnnn,Y` (R153, R142). -/
  | staAby (w : Word)
  /-- $9A `TXS` (R161, R131). -/
  | txs
  /-- $9D `STA $nnnn,X` (R153, R141). -/
  | staAbx (w : Word)
  /-- $A0 `LDY #$nn` (R152, R133). -/
  | ldyImm (v : Byte)
  /-- $A1 `LDA ($nn,X)` (R150, R139). -/
  | ldaIzx (z : Byte)
  /-- $A2 `LDX #$nn` (R151, R133). -/
  | ldxImm (v : Byte)
  /-- $A4 `LDY $nn` (R152, R134). -/
  | ldyZp (z : Byte)
  /-- $A5 `LDA $nn` (R150, R134). -/
  | ldaZp (z : Byte)
  /-- $A6 `LDX $nn` (R151, R134). -/
  | ldxZp (z : Byte)
  /-- $A8 `TAY` (R157, R131). -/
  | tay
  /-- $A9 `LDA #$nn` (R150, R133). -/
  | ldaImm (v : Byte)
  /-- $AA `TAX` (R156, R131). -/
  | tax
  /-- $AC `LDY $nnnn` (R152, R137). -/
  | ldyAbs (w : Word)
  /-- $AD `LDA $nnnn` (R150, R137). -/
  | ldaAbs (w : Word)
  /-- $AE `LDX $nnnn` (R151, R137). -/
  | ldxAbs (w : Word)
  /-- $B0 `BCS label` (R225, R143). -/
  | bcs (off : Byte)
  /-- $B1 `LDA ($nn),Y` (R150, R140). -/
  | ldaIzy (z : Byte)
  /-- $B4 `LDY $nn,X` (R152, R135). -/
  | ldyZpx (z : Byte)
  /-- $B5 `LDA $nn,X` (R150, R135). -/
  | ldaZpx (z : Byte)
  /-- $B6 `LDX $nn,Y` (R151, R136). -/
  | ldxZpy (z : Byte)
  /-- $B8 `CLV` (R246, R131). -/
  | clv
  /-- $B9 `LDA $nnnn,Y` (R150, R142). -/
  | ldaAby (w : Word)
  /-- $BA `TSX` (R160, R131). -/
  | tsx
  /-- $BC `LDY $nnnn,X` (R152, R141). -/
  | ldyAbx (w : Word)
  /-- $BD `LDA $nnnn,X` (R150, R141). -/
  | ldaAbx (w : Word)
  /-- $BE `LDX $nnnn,Y` (R151, R142). -/
  | ldxAby (w : Word)
  /-- $C0 `CPY #$nn` (R187, R133). -/
  | cpyImm (v : Byte)
  /-- $C1 `CMP ($nn,X)` (R185, R139). -/
  | cmpIzx (z : Byte)
  /-- $C4 `CPY $nn` (R187, R134). -/
  | cpyZp (z : Byte)
  /-- $C5 `CMP $nn` (R185, R134). -/
  | cmpZp (z : Byte)
  /-- $C6 `DEC $nn` (R205, R134). -/
  | decZp (z : Byte)
  /-- $C8 `INY` (R207, R131). -/
  | iny
  /-- $C9 `CMP #$nn` (R185, R133). -/
  | cmpImm (v : Byte)
  /-- $CA `DEX` (R208, R131). -/
  | dex
  /-- $CC `CPY $nnnn` (R187, R137). -/
  | cpyAbs (w : Word)
  /-- $CD `CMP $nnnn` (R185, R137). -/
  | cmpAbs (w : Word)
  /-- $CE `DEC $nnnn` (R205, R137). -/
  | decAbs (w : Word)
  /-- $D0 `BNE label` (R227, R143). -/
  | bne (off : Byte)
  /-- $D1 `CMP ($nn),Y` (R185, R140). -/
  | cmpIzy (z : Byte)
  /-- $D5 `CMP $nn,X` (R185, R135). -/
  | cmpZpx (z : Byte)
  /-- $D6 `DEC $nn,X` (R205, R135). -/
  | decZpx (z : Byte)
  /-- $D8 `CLD` (R244, R131). -/
  | cld
  /-- $D9 `CMP $nnnn,Y` (R185, R142). -/
  | cmpAby (w : Word)
  /-- $DD `CMP $nnnn,X` (R185, R141). -/
  | cmpAbx (w : Word)
  /-- $DE `DEC $nnnn,X` (R205, R141). -/
  | decAbx (w : Word)
  /-- $E0 `CPX #$nn` (R186, R133). -/
  | cpxImm (v : Byte)
  /-- $E1 `SBC ($nn,X)` (R181, R139). -/
  | sbcIzx (z : Byte)
  /-- $E4 `CPX $nn` (R186, R134). -/
  | cpxZp (z : Byte)
  /-- $E5 `SBC $nn` (R181, R134). -/
  | sbcZp (z : Byte)
  /-- $E6 `INC $nn` (R204, R134). -/
  | incZp (z : Byte)
  /-- $E8 `INX` (R206, R131). -/
  | inx
  /-- $E9 `SBC #$nn` (R181, R133). -/
  | sbcImm (v : Byte)
  /-- $EA `NOP` (R247, R131). -/
  | nop
  /-- $EC `CPX $nnnn` (R186, R137). -/
  | cpxAbs (w : Word)
  /-- $ED `SBC $nnnn` (R181, R137). -/
  | sbcAbs (w : Word)
  /-- $EE `INC $nnnn` (R204, R137). -/
  | incAbs (w : Word)
  /-- $F0 `BEQ label` (R226, R143). -/
  | beq (off : Byte)
  /-- $F1 `SBC ($nn),Y` (R181, R140). -/
  | sbcIzy (z : Byte)
  /-- $F5 `SBC $nn,X` (R181, R135). -/
  | sbcZpx (z : Byte)
  /-- $F6 `INC $nn,X` (R204, R135). -/
  | incZpx (z : Byte)
  /-- $F8 `SED` (R245, R131). -/
  | sed
  /-- $F9 `SBC $nnnn,Y` (R181, R142). -/
  | sbcAby (w : Word)
  /-- $FD `SBC $nnnn,X` (R181, R141). -/
  | sbcAbx (w : Word)
  /-- $FE `INC $nnnn,X` (R204, R141). -/
  | incAbx (w : Word)
  /-- $02, undefined (R116). -/
  | illegal02
  /-- $03, undefined (R116). -/
  | illegal03
  /-- $04, undefined (R116). -/
  | illegal04
  /-- $07, undefined (R116). -/
  | illegal07
  /-- $0B, undefined (R116). -/
  | illegal0B
  /-- $0C, undefined (R116). -/
  | illegal0C
  /-- $0F, undefined (R116). -/
  | illegal0F
  /-- $12, undefined (R116). -/
  | illegal12
  /-- $13, undefined (R116). -/
  | illegal13
  /-- $14, undefined (R116). -/
  | illegal14
  /-- $17, undefined (R116). -/
  | illegal17
  /-- $1A, undefined (R116). -/
  | illegal1A
  /-- $1B, undefined (R116). -/
  | illegal1B
  /-- $1C, undefined (R116). -/
  | illegal1C
  /-- $1F, undefined (R116). -/
  | illegal1F
  /-- $22, undefined (R116). -/
  | illegal22
  /-- $23, undefined (R116). -/
  | illegal23
  /-- $27, undefined (R116). -/
  | illegal27
  /-- $2B, undefined (R116). -/
  | illegal2B
  /-- $2F, undefined (R116). -/
  | illegal2F
  /-- $32, undefined (R116). -/
  | illegal32
  /-- $33, undefined (R116). -/
  | illegal33
  /-- $34, undefined (R116). -/
  | illegal34
  /-- $37, undefined (R116). -/
  | illegal37
  /-- $3A, undefined (R116). -/
  | illegal3A
  /-- $3B, undefined (R116). -/
  | illegal3B
  /-- $3C, undefined (R116). -/
  | illegal3C
  /-- $3F, undefined (R116). -/
  | illegal3F
  /-- $42, undefined (R116). -/
  | illegal42
  /-- $43, undefined (R116). -/
  | illegal43
  /-- $44, undefined (R116). -/
  | illegal44
  /-- $47, undefined (R116). -/
  | illegal47
  /-- $4B, undefined (R116). -/
  | illegal4B
  /-- $4F, undefined (R116). -/
  | illegal4F
  /-- $52, undefined (R116). -/
  | illegal52
  /-- $53, undefined (R116). -/
  | illegal53
  /-- $54, undefined (R116). -/
  | illegal54
  /-- $57, undefined (R116). -/
  | illegal57
  /-- $5A, undefined (R116). -/
  | illegal5A
  /-- $5B, undefined (R116). -/
  | illegal5B
  /-- $5C, undefined (R116). -/
  | illegal5C
  /-- $5F, undefined (R116). -/
  | illegal5F
  /-- $62, undefined (R116). -/
  | illegal62
  /-- $63, undefined (R116). -/
  | illegal63
  /-- $64, undefined (R116). -/
  | illegal64
  /-- $67, undefined (R116). -/
  | illegal67
  /-- $6B, undefined (R116). -/
  | illegal6B
  /-- $6F, undefined (R116). -/
  | illegal6F
  /-- $72, undefined (R116). -/
  | illegal72
  /-- $73, undefined (R116). -/
  | illegal73
  /-- $74, undefined (R116). -/
  | illegal74
  /-- $77, undefined (R116). -/
  | illegal77
  /-- $7A, undefined (R116). -/
  | illegal7A
  /-- $7B, undefined (R116). -/
  | illegal7B
  /-- $7C, undefined (R116). -/
  | illegal7C
  /-- $7F, undefined (R116). -/
  | illegal7F
  /-- $80, undefined (R116). -/
  | illegal80
  /-- $82, undefined (R116). -/
  | illegal82
  /-- $83, undefined (R116). -/
  | illegal83
  /-- $87, undefined (R116). -/
  | illegal87
  /-- $89, undefined (R116). -/
  | illegal89
  /-- $8B, undefined (R116). -/
  | illegal8B
  /-- $8F, undefined (R116). -/
  | illegal8F
  /-- $92, undefined (R116). -/
  | illegal92
  /-- $93, undefined (R116). -/
  | illegal93
  /-- $97, undefined (R116). -/
  | illegal97
  /-- $9B, undefined (R116). -/
  | illegal9B
  /-- $9C, undefined (R116). -/
  | illegal9C
  /-- $9E, undefined (R116). -/
  | illegal9E
  /-- $9F, undefined (R116). -/
  | illegal9F
  /-- $A3, undefined (R116). -/
  | illegalA3
  /-- $A7, undefined (R116). -/
  | illegalA7
  /-- $AB, undefined (R116). -/
  | illegalAB
  /-- $AF, undefined (R116). -/
  | illegalAF
  /-- $B2, undefined (R116). -/
  | illegalB2
  /-- $B3, undefined (R116). -/
  | illegalB3
  /-- $B7, undefined (R116). -/
  | illegalB7
  /-- $BB, undefined (R116). -/
  | illegalBB
  /-- $BF, undefined (R116). -/
  | illegalBF
  /-- $C2, undefined (R116). -/
  | illegalC2
  /-- $C3, undefined (R116). -/
  | illegalC3
  /-- $C7, undefined (R116). -/
  | illegalC7
  /-- $CB, undefined (R116). -/
  | illegalCB
  /-- $CF, undefined (R116). -/
  | illegalCF
  /-- $D2, undefined (R116). -/
  | illegalD2
  /-- $D3, undefined (R116). -/
  | illegalD3
  /-- $D4, undefined (R116). -/
  | illegalD4
  /-- $D7, undefined (R116). -/
  | illegalD7
  /-- $DA, undefined (R116). -/
  | illegalDA
  /-- $DB, undefined (R116). -/
  | illegalDB
  /-- $DC, undefined (R116). -/
  | illegalDC
  /-- $DF, undefined (R116). -/
  | illegalDF
  /-- $E2, undefined (R116). -/
  | illegalE2
  /-- $E3, undefined (R116). -/
  | illegalE3
  /-- $E7, undefined (R116). -/
  | illegalE7
  /-- $EB, undefined (R116). -/
  | illegalEB
  /-- $EF, undefined (R116). -/
  | illegalEF
  /-- $F2, undefined (R116). -/
  | illegalF2
  /-- $F3, undefined (R116). -/
  | illegalF3
  /-- $F4, undefined (R116). -/
  | illegalF4
  /-- $F7, undefined (R116). -/
  | illegalF7
  /-- $FA, undefined (R116). -/
  | illegalFA
  /-- $FB, undefined (R116). -/
  | illegalFB
  /-- $FC, undefined (R116). -/
  | illegalFC
  /-- $FF, undefined (R116). -/
  | illegalFF
  deriving DecidableEq, Repr

end Sys2Proof
end

