-- ==== Sys2Proof/Machine/Dispatch.lean ====
section
/-! DEFINITION. The dispatch table: one arm per instruction (70_reset_and_hazards.md R390, R11 of 00_scope.md). -/

namespace Sys2Proof.Machine

/-- What an instruction does, its bytes having been fetched: `s` is the state after the fetch. -/
def exec (i : Instr) (s : State) : Host.Outcome State Fault Refusal :=
  match i with
  | .brk => Sys2Proof.Machine.execBrk s
  | .oraIzx z => Sys2Proof.Machine.execOraIzx z s
  | .illegal02 => Sys2Proof.Machine.execIllegal02 s
  | .illegal03 => Sys2Proof.Machine.execIllegal03 s
  | .illegal04 => Sys2Proof.Machine.execIllegal04 s
  | .oraZp z => Sys2Proof.Machine.execOraZp z s
  | .aslZp z => Sys2Proof.Machine.execAslZp z s
  | .illegal07 => Sys2Proof.Machine.execIllegal07 s
  | .php => Sys2Proof.Machine.execPhp s
  | .oraImm v => Sys2Proof.Machine.execOraImm v s
  | .aslAcc => Sys2Proof.Machine.execAslAcc s
  | .illegal0B => Sys2Proof.Machine.execIllegal0B s
  | .illegal0C => Sys2Proof.Machine.execIllegal0C s
  | .oraAbs w => Sys2Proof.Machine.execOraAbs w s
  | .aslAbs w => Sys2Proof.Machine.execAslAbs w s
  | .illegal0F => Sys2Proof.Machine.execIllegal0F s
  | .bpl off => Sys2Proof.Machine.execBpl off s
  | .oraIzy z => Sys2Proof.Machine.execOraIzy z s
  | .illegal12 => Sys2Proof.Machine.execIllegal12 s
  | .illegal13 => Sys2Proof.Machine.execIllegal13 s
  | .illegal14 => Sys2Proof.Machine.execIllegal14 s
  | .oraZpx z => Sys2Proof.Machine.execOraZpx z s
  | .aslZpx z => Sys2Proof.Machine.execAslZpx z s
  | .illegal17 => Sys2Proof.Machine.execIllegal17 s
  | .clc => Sys2Proof.Machine.execClc s
  | .oraAby w => Sys2Proof.Machine.execOraAby w s
  | .illegal1A => Sys2Proof.Machine.execIllegal1A s
  | .illegal1B => Sys2Proof.Machine.execIllegal1B s
  | .illegal1C => Sys2Proof.Machine.execIllegal1C s
  | .oraAbx w => Sys2Proof.Machine.execOraAbx w s
  | .aslAbx w => Sys2Proof.Machine.execAslAbx w s
  | .illegal1F => Sys2Proof.Machine.execIllegal1F s
  | .jsr w => Sys2Proof.Machine.execJsr w s
  | .andIzx z => Sys2Proof.Machine.execAndIzx z s
  | .illegal22 => Sys2Proof.Machine.execIllegal22 s
  | .illegal23 => Sys2Proof.Machine.execIllegal23 s
  | .bitZp z => Sys2Proof.Machine.execBitZp z s
  | .andZp z => Sys2Proof.Machine.execAndZp z s
  | .rolZp z => Sys2Proof.Machine.execRolZp z s
  | .illegal27 => Sys2Proof.Machine.execIllegal27 s
  | .plp => Sys2Proof.Machine.execPlp s
  | .andImm v => Sys2Proof.Machine.execAndImm v s
  | .rolAcc => Sys2Proof.Machine.execRolAcc s
  | .illegal2B => Sys2Proof.Machine.execIllegal2B s
  | .bitAbs w => Sys2Proof.Machine.execBitAbs w s
  | .andAbs w => Sys2Proof.Machine.execAndAbs w s
  | .rolAbs w => Sys2Proof.Machine.execRolAbs w s
  | .illegal2F => Sys2Proof.Machine.execIllegal2F s
  | .bmi off => Sys2Proof.Machine.execBmi off s
  | .andIzy z => Sys2Proof.Machine.execAndIzy z s
  | .illegal32 => Sys2Proof.Machine.execIllegal32 s
  | .illegal33 => Sys2Proof.Machine.execIllegal33 s
  | .illegal34 => Sys2Proof.Machine.execIllegal34 s
  | .andZpx z => Sys2Proof.Machine.execAndZpx z s
  | .rolZpx z => Sys2Proof.Machine.execRolZpx z s
  | .illegal37 => Sys2Proof.Machine.execIllegal37 s
  | .sec => Sys2Proof.Machine.execSec s
  | .andAby w => Sys2Proof.Machine.execAndAby w s
  | .illegal3A => Sys2Proof.Machine.execIllegal3A s
  | .illegal3B => Sys2Proof.Machine.execIllegal3B s
  | .illegal3C => Sys2Proof.Machine.execIllegal3C s
  | .andAbx w => Sys2Proof.Machine.execAndAbx w s
  | .rolAbx w => Sys2Proof.Machine.execRolAbx w s
  | .illegal3F => Sys2Proof.Machine.execIllegal3F s
  | .rti => Sys2Proof.Machine.execRti s
  | .eorIzx z => Sys2Proof.Machine.execEorIzx z s
  | .illegal42 => Sys2Proof.Machine.execIllegal42 s
  | .illegal43 => Sys2Proof.Machine.execIllegal43 s
  | .illegal44 => Sys2Proof.Machine.execIllegal44 s
  | .eorZp z => Sys2Proof.Machine.execEorZp z s
  | .lsrZp z => Sys2Proof.Machine.execLsrZp z s
  | .illegal47 => Sys2Proof.Machine.execIllegal47 s
  | .pha => Sys2Proof.Machine.execPha s
  | .eorImm v => Sys2Proof.Machine.execEorImm v s
  | .lsrAcc => Sys2Proof.Machine.execLsrAcc s
  | .illegal4B => Sys2Proof.Machine.execIllegal4B s
  | .jmpAbs w => Sys2Proof.Machine.execJmpAbs w s
  | .eorAbs w => Sys2Proof.Machine.execEorAbs w s
  | .lsrAbs w => Sys2Proof.Machine.execLsrAbs w s
  | .illegal4F => Sys2Proof.Machine.execIllegal4F s
  | .bvc off => Sys2Proof.Machine.execBvc off s
  | .eorIzy z => Sys2Proof.Machine.execEorIzy z s
  | .illegal52 => Sys2Proof.Machine.execIllegal52 s
  | .illegal53 => Sys2Proof.Machine.execIllegal53 s
  | .illegal54 => Sys2Proof.Machine.execIllegal54 s
  | .eorZpx z => Sys2Proof.Machine.execEorZpx z s
  | .lsrZpx z => Sys2Proof.Machine.execLsrZpx z s
  | .illegal57 => Sys2Proof.Machine.execIllegal57 s
  | .cli => Sys2Proof.Machine.execCli s
  | .eorAby w => Sys2Proof.Machine.execEorAby w s
  | .illegal5A => Sys2Proof.Machine.execIllegal5A s
  | .illegal5B => Sys2Proof.Machine.execIllegal5B s
  | .illegal5C => Sys2Proof.Machine.execIllegal5C s
  | .eorAbx w => Sys2Proof.Machine.execEorAbx w s
  | .lsrAbx w => Sys2Proof.Machine.execLsrAbx w s
  | .illegal5F => Sys2Proof.Machine.execIllegal5F s
  | .rts => Sys2Proof.Machine.execRts s
  | .adcIzx z => Sys2Proof.Machine.execAdcIzx z s
  | .illegal62 => Sys2Proof.Machine.execIllegal62 s
  | .illegal63 => Sys2Proof.Machine.execIllegal63 s
  | .illegal64 => Sys2Proof.Machine.execIllegal64 s
  | .adcZp z => Sys2Proof.Machine.execAdcZp z s
  | .rorZp z => Sys2Proof.Machine.execRorZp z s
  | .illegal67 => Sys2Proof.Machine.execIllegal67 s
  | .pla => Sys2Proof.Machine.execPla s
  | .adcImm v => Sys2Proof.Machine.execAdcImm v s
  | .rorAcc => Sys2Proof.Machine.execRorAcc s
  | .illegal6B => Sys2Proof.Machine.execIllegal6B s
  | .jmpInd w => Sys2Proof.Machine.execJmpInd w s
  | .adcAbs w => Sys2Proof.Machine.execAdcAbs w s
  | .rorAbs w => Sys2Proof.Machine.execRorAbs w s
  | .illegal6F => Sys2Proof.Machine.execIllegal6F s
  | .bvs off => Sys2Proof.Machine.execBvs off s
  | .adcIzy z => Sys2Proof.Machine.execAdcIzy z s
  | .illegal72 => Sys2Proof.Machine.execIllegal72 s
  | .illegal73 => Sys2Proof.Machine.execIllegal73 s
  | .illegal74 => Sys2Proof.Machine.execIllegal74 s
  | .adcZpx z => Sys2Proof.Machine.execAdcZpx z s
  | .rorZpx z => Sys2Proof.Machine.execRorZpx z s
  | .illegal77 => Sys2Proof.Machine.execIllegal77 s
  | .sei => Sys2Proof.Machine.execSei s
  | .adcAby w => Sys2Proof.Machine.execAdcAby w s
  | .illegal7A => Sys2Proof.Machine.execIllegal7A s
  | .illegal7B => Sys2Proof.Machine.execIllegal7B s
  | .illegal7C => Sys2Proof.Machine.execIllegal7C s
  | .adcAbx w => Sys2Proof.Machine.execAdcAbx w s
  | .rorAbx w => Sys2Proof.Machine.execRorAbx w s
  | .illegal7F => Sys2Proof.Machine.execIllegal7F s
  | .illegal80 => Sys2Proof.Machine.execIllegal80 s
  | .staIzx z => Sys2Proof.Machine.execStaIzx z s
  | .illegal82 => Sys2Proof.Machine.execIllegal82 s
  | .illegal83 => Sys2Proof.Machine.execIllegal83 s
  | .styZp z => Sys2Proof.Machine.execStyZp z s
  | .staZp z => Sys2Proof.Machine.execStaZp z s
  | .stxZp z => Sys2Proof.Machine.execStxZp z s
  | .illegal87 => Sys2Proof.Machine.execIllegal87 s
  | .dey => Sys2Proof.Machine.execDey s
  | .illegal89 => Sys2Proof.Machine.execIllegal89 s
  | .txa => Sys2Proof.Machine.execTxa s
  | .illegal8B => Sys2Proof.Machine.execIllegal8B s
  | .styAbs w => Sys2Proof.Machine.execStyAbs w s
  | .staAbs w => Sys2Proof.Machine.execStaAbs w s
  | .stxAbs w => Sys2Proof.Machine.execStxAbs w s
  | .illegal8F => Sys2Proof.Machine.execIllegal8F s
  | .bcc off => Sys2Proof.Machine.execBcc off s
  | .staIzy z => Sys2Proof.Machine.execStaIzy z s
  | .illegal92 => Sys2Proof.Machine.execIllegal92 s
  | .illegal93 => Sys2Proof.Machine.execIllegal93 s
  | .styZpx z => Sys2Proof.Machine.execStyZpx z s
  | .staZpx z => Sys2Proof.Machine.execStaZpx z s
  | .stxZpy z => Sys2Proof.Machine.execStxZpy z s
  | .illegal97 => Sys2Proof.Machine.execIllegal97 s
  | .tya => Sys2Proof.Machine.execTya s
  | .staAby w => Sys2Proof.Machine.execStaAby w s
  | .txs => Sys2Proof.Machine.execTxs s
  | .illegal9B => Sys2Proof.Machine.execIllegal9B s
  | .illegal9C => Sys2Proof.Machine.execIllegal9C s
  | .staAbx w => Sys2Proof.Machine.execStaAbx w s
  | .illegal9E => Sys2Proof.Machine.execIllegal9E s
  | .illegal9F => Sys2Proof.Machine.execIllegal9F s
  | .ldyImm v => Sys2Proof.Machine.execLdyImm v s
  | .ldaIzx z => Sys2Proof.Machine.execLdaIzx z s
  | .ldxImm v => Sys2Proof.Machine.execLdxImm v s
  | .illegalA3 => Sys2Proof.Machine.execIllegalA3 s
  | .ldyZp z => Sys2Proof.Machine.execLdyZp z s
  | .ldaZp z => Sys2Proof.Machine.execLdaZp z s
  | .ldxZp z => Sys2Proof.Machine.execLdxZp z s
  | .illegalA7 => Sys2Proof.Machine.execIllegalA7 s
  | .tay => Sys2Proof.Machine.execTay s
  | .ldaImm v => Sys2Proof.Machine.execLdaImm v s
  | .tax => Sys2Proof.Machine.execTax s
  | .illegalAB => Sys2Proof.Machine.execIllegalAB s
  | .ldyAbs w => Sys2Proof.Machine.execLdyAbs w s
  | .ldaAbs w => Sys2Proof.Machine.execLdaAbs w s
  | .ldxAbs w => Sys2Proof.Machine.execLdxAbs w s
  | .illegalAF => Sys2Proof.Machine.execIllegalAF s
  | .bcs off => Sys2Proof.Machine.execBcs off s
  | .ldaIzy z => Sys2Proof.Machine.execLdaIzy z s
  | .illegalB2 => Sys2Proof.Machine.execIllegalB2 s
  | .illegalB3 => Sys2Proof.Machine.execIllegalB3 s
  | .ldyZpx z => Sys2Proof.Machine.execLdyZpx z s
  | .ldaZpx z => Sys2Proof.Machine.execLdaZpx z s
  | .ldxZpy z => Sys2Proof.Machine.execLdxZpy z s
  | .illegalB7 => Sys2Proof.Machine.execIllegalB7 s
  | .clv => Sys2Proof.Machine.execClv s
  | .ldaAby w => Sys2Proof.Machine.execLdaAby w s
  | .tsx => Sys2Proof.Machine.execTsx s
  | .illegalBB => Sys2Proof.Machine.execIllegalBB s
  | .ldyAbx w => Sys2Proof.Machine.execLdyAbx w s
  | .ldaAbx w => Sys2Proof.Machine.execLdaAbx w s
  | .ldxAby w => Sys2Proof.Machine.execLdxAby w s
  | .illegalBF => Sys2Proof.Machine.execIllegalBF s
  | .cpyImm v => Sys2Proof.Machine.execCpyImm v s
  | .cmpIzx z => Sys2Proof.Machine.execCmpIzx z s
  | .illegalC2 => Sys2Proof.Machine.execIllegalC2 s
  | .illegalC3 => Sys2Proof.Machine.execIllegalC3 s
  | .cpyZp z => Sys2Proof.Machine.execCpyZp z s
  | .cmpZp z => Sys2Proof.Machine.execCmpZp z s
  | .decZp z => Sys2Proof.Machine.execDecZp z s
  | .illegalC7 => Sys2Proof.Machine.execIllegalC7 s
  | .iny => Sys2Proof.Machine.execIny s
  | .cmpImm v => Sys2Proof.Machine.execCmpImm v s
  | .dex => Sys2Proof.Machine.execDex s
  | .illegalCB => Sys2Proof.Machine.execIllegalCB s
  | .cpyAbs w => Sys2Proof.Machine.execCpyAbs w s
  | .cmpAbs w => Sys2Proof.Machine.execCmpAbs w s
  | .decAbs w => Sys2Proof.Machine.execDecAbs w s
  | .illegalCF => Sys2Proof.Machine.execIllegalCF s
  | .bne off => Sys2Proof.Machine.execBne off s
  | .cmpIzy z => Sys2Proof.Machine.execCmpIzy z s
  | .illegalD2 => Sys2Proof.Machine.execIllegalD2 s
  | .illegalD3 => Sys2Proof.Machine.execIllegalD3 s
  | .illegalD4 => Sys2Proof.Machine.execIllegalD4 s
  | .cmpZpx z => Sys2Proof.Machine.execCmpZpx z s
  | .decZpx z => Sys2Proof.Machine.execDecZpx z s
  | .illegalD7 => Sys2Proof.Machine.execIllegalD7 s
  | .cld => Sys2Proof.Machine.execCld s
  | .cmpAby w => Sys2Proof.Machine.execCmpAby w s
  | .illegalDA => Sys2Proof.Machine.execIllegalDA s
  | .illegalDB => Sys2Proof.Machine.execIllegalDB s
  | .illegalDC => Sys2Proof.Machine.execIllegalDC s
  | .cmpAbx w => Sys2Proof.Machine.execCmpAbx w s
  | .decAbx w => Sys2Proof.Machine.execDecAbx w s
  | .illegalDF => Sys2Proof.Machine.execIllegalDF s
  | .cpxImm v => Sys2Proof.Machine.execCpxImm v s
  | .sbcIzx z => Sys2Proof.Machine.execSbcIzx z s
  | .illegalE2 => Sys2Proof.Machine.execIllegalE2 s
  | .illegalE3 => Sys2Proof.Machine.execIllegalE3 s
  | .cpxZp z => Sys2Proof.Machine.execCpxZp z s
  | .sbcZp z => Sys2Proof.Machine.execSbcZp z s
  | .incZp z => Sys2Proof.Machine.execIncZp z s
  | .illegalE7 => Sys2Proof.Machine.execIllegalE7 s
  | .inx => Sys2Proof.Machine.execInx s
  | .sbcImm v => Sys2Proof.Machine.execSbcImm v s
  | .nop => Sys2Proof.Machine.execNop s
  | .illegalEB => Sys2Proof.Machine.execIllegalEB s
  | .cpxAbs w => Sys2Proof.Machine.execCpxAbs w s
  | .sbcAbs w => Sys2Proof.Machine.execSbcAbs w s
  | .incAbs w => Sys2Proof.Machine.execIncAbs w s
  | .illegalEF => Sys2Proof.Machine.execIllegalEF s
  | .beq off => Sys2Proof.Machine.execBeq off s
  | .sbcIzy z => Sys2Proof.Machine.execSbcIzy z s
  | .illegalF2 => Sys2Proof.Machine.execIllegalF2 s
  | .illegalF3 => Sys2Proof.Machine.execIllegalF3 s
  | .illegalF4 => Sys2Proof.Machine.execIllegalF4 s
  | .sbcZpx z => Sys2Proof.Machine.execSbcZpx z s
  | .incZpx z => Sys2Proof.Machine.execIncZpx z s
  | .illegalF7 => Sys2Proof.Machine.execIllegalF7 s
  | .sed => Sys2Proof.Machine.execSed s
  | .sbcAby w => Sys2Proof.Machine.execSbcAby w s
  | .illegalFA => Sys2Proof.Machine.execIllegalFA s
  | .illegalFB => Sys2Proof.Machine.execIllegalFB s
  | .illegalFC => Sys2Proof.Machine.execIllegalFC s
  | .sbcAbx w => Sys2Proof.Machine.execSbcAbx w s
  | .incAbx w => Sys2Proof.Machine.execIncAbx w s
  | .illegalFF => Sys2Proof.Machine.execIllegalFF s

end Sys2Proof.Machine
end

