-- ==== Sys2Proof/WellFormed.lean ====
section
/-! DEFINITION. Which instructions and which configurations are well formed. -/

namespace Sys2Proof

/-- Every term of `Instr` is a well-formed instruction: each constructor is one row of the opcode table with
operand fields of exactly the widths the row encodes, and "any operand value is legal" (30_encoding.md R118). -/
def Instr.wellFormed (_ : Instr) : Bool := true

/-- The configurations for which a machine is constructed (20_memory.md R95): at least one program bank; and
images and colour table in canonical form, no larger than the cartridge's geometry and the table's 64 entries.
An unsupported mapper id is no term of `MapperId`. -/
def Config.wellFormed (c : Config) : Bool :=
  decide (1 ≤ c.prgBanks) && c.prg.wfIn c.prgSize && c.chrRom.wfIn (8192 * c.chrBanks) && c.colorLut.wfIn 64

end Sys2Proof
end

