-- ==== Sys2Proof/Decode.lean ====
section
/-! DEFINITION. The decoder, total on any bytes, and the encoder, both from the opcode map (30_encoding.md R110 to R118). -/

namespace Sys2Proof

/-- Why a list of bytes is no instruction. Every opcode byte has a row (30_encoding.md R118), so only bytes can be missing. -/
inductive DecodeError where
  /-- There is no opcode byte. -/
  | noOpcode
  /-- An operand byte of the instruction with this opcode byte is missing. -/
  | truncated (op : BitVec 8)
  deriving DecidableEq, Repr

/-- Row 0x of the opcode map (30_encoding.md R114, R116): the instruction of each opcode byte, given the two bytes after it. -/
def opcodeRow0 : List (Byte → Byte → Instr) :=
  [ fun _ _ => .brk,
    fun b _ => .oraIzx b,
    fun _ _ => .illegal02,
    fun _ _ => .illegal03,
    fun _ _ => .illegal04,
    fun b _ => .oraZp b,
    fun b _ => .aslZp b,
    fun _ _ => .illegal07,
    fun _ _ => .php,
    fun b _ => .oraImm b,
    fun _ _ => .aslAcc,
    fun _ _ => .illegal0B,
    fun _ _ => .illegal0C,
    fun b c => .oraAbs (Machine.word c b),
    fun b c => .aslAbs (Machine.word c b),
    fun _ _ => .illegal0F ]

/-- Row 1x of the opcode map (30_encoding.md R114, R116): the instruction of each opcode byte, given the two bytes after it. -/
def opcodeRow1 : List (Byte → Byte → Instr) :=
  [ fun b _ => .bpl b,
    fun b _ => .oraIzy b,
    fun _ _ => .illegal12,
    fun _ _ => .illegal13,
    fun _ _ => .illegal14,
    fun b _ => .oraZpx b,
    fun b _ => .aslZpx b,
    fun _ _ => .illegal17,
    fun _ _ => .clc,
    fun b c => .oraAby (Machine.word c b),
    fun _ _ => .illegal1A,
    fun _ _ => .illegal1B,
    fun _ _ => .illegal1C,
    fun b c => .oraAbx (Machine.word c b),
    fun b c => .aslAbx (Machine.word c b),
    fun _ _ => .illegal1F ]

/-- Row 2x of the opcode map (30_encoding.md R114, R116): the instruction of each opcode byte, given the two bytes after it. -/
def opcodeRow2 : List (Byte → Byte → Instr) :=
  [ fun b c => .jsr (Machine.word c b),
    fun b _ => .andIzx b,
    fun _ _ => .illegal22,
    fun _ _ => .illegal23,
    fun b _ => .bitZp b,
    fun b _ => .andZp b,
    fun b _ => .rolZp b,
    fun _ _ => .illegal27,
    fun _ _ => .plp,
    fun b _ => .andImm b,
    fun _ _ => .rolAcc,
    fun _ _ => .illegal2B,
    fun b c => .bitAbs (Machine.word c b),
    fun b c => .andAbs (Machine.word c b),
    fun b c => .rolAbs (Machine.word c b),
    fun _ _ => .illegal2F ]

/-- Row 3x of the opcode map (30_encoding.md R114, R116): the instruction of each opcode byte, given the two bytes after it. -/
def opcodeRow3 : List (Byte → Byte → Instr) :=
  [ fun b _ => .bmi b,
    fun b _ => .andIzy b,
    fun _ _ => .illegal32,
    fun _ _ => .illegal33,
    fun _ _ => .illegal34,
    fun b _ => .andZpx b,
    fun b _ => .rolZpx b,
    fun _ _ => .illegal37,
    fun _ _ => .sec,
    fun b c => .andAby (Machine.word c b),
    fun _ _ => .illegal3A,
    fun _ _ => .illegal3B,
    fun _ _ => .illegal3C,
    fun b c => .andAbx (Machine.word c b),
    fun b c => .rolAbx (Machine.word c b),
    fun _ _ => .illegal3F ]

/-- Row 4x of the opcode map (30_encoding.md R114, R116): the instruction of each opcode byte, given the two bytes after it. -/
def opcodeRow4 : List (Byte → Byte → Instr) :=
  [ fun _ _ => .rti,
    fun b _ => .eorIzx b,
    fun _ _ => .illegal42,
    fun _ _ => .illegal43,
    fun _ _ => .illegal44,
    fun b _ => .eorZp b,
    fun b _ => .lsrZp b,
    fun _ _ => .illegal47,
    fun _ _ => .pha,
    fun b _ => .eorImm b,
    fun _ _ => .lsrAcc,
    fun _ _ => .illegal4B,
    fun b c => .jmpAbs (Machine.word c b),
    fun b c => .eorAbs (Machine.word c b),
    fun b c => .lsrAbs (Machine.word c b),
    fun _ _ => .illegal4F ]

/-- Row 5x of the opcode map (30_encoding.md R114, R116): the instruction of each opcode byte, given the two bytes after it. -/
def opcodeRow5 : List (Byte → Byte → Instr) :=
  [ fun b _ => .bvc b,
    fun b _ => .eorIzy b,
    fun _ _ => .illegal52,
    fun _ _ => .illegal53,
    fun _ _ => .illegal54,
    fun b _ => .eorZpx b,
    fun b _ => .lsrZpx b,
    fun _ _ => .illegal57,
    fun _ _ => .cli,
    fun b c => .eorAby (Machine.word c b),
    fun _ _ => .illegal5A,
    fun _ _ => .illegal5B,
    fun _ _ => .illegal5C,
    fun b c => .eorAbx (Machine.word c b),
    fun b c => .lsrAbx (Machine.word c b),
    fun _ _ => .illegal5F ]

/-- Row 6x of the opcode map (30_encoding.md R114, R116): the instruction of each opcode byte, given the two bytes after it. -/
def opcodeRow6 : List (Byte → Byte → Instr) :=
  [ fun _ _ => .rts,
    fun b _ => .adcIzx b,
    fun _ _ => .illegal62,
    fun _ _ => .illegal63,
    fun _ _ => .illegal64,
    fun b _ => .adcZp b,
    fun b _ => .rorZp b,
    fun _ _ => .illegal67,
    fun _ _ => .pla,
    fun b _ => .adcImm b,
    fun _ _ => .rorAcc,
    fun _ _ => .illegal6B,
    fun b c => .jmpInd (Machine.word c b),
    fun b c => .adcAbs (Machine.word c b),
    fun b c => .rorAbs (Machine.word c b),
    fun _ _ => .illegal6F ]

/-- Row 7x of the opcode map (30_encoding.md R114, R116): the instruction of each opcode byte, given the two bytes after it. -/
def opcodeRow7 : List (Byte → Byte → Instr) :=
  [ fun b _ => .bvs b,
    fun b _ => .adcIzy b,
    fun _ _ => .illegal72,
    fun _ _ => .illegal73,
    fun _ _ => .illegal74,
    fun b _ => .adcZpx b,
    fun b _ => .rorZpx b,
    fun _ _ => .illegal77,
    fun _ _ => .sei,
    fun b c => .adcAby (Machine.word c b),
    fun _ _ => .illegal7A,
    fun _ _ => .illegal7B,
    fun _ _ => .illegal7C,
    fun b c => .adcAbx (Machine.word c b),
    fun b c => .rorAbx (Machine.word c b),
    fun _ _ => .illegal7F ]

/-- Row 8x of the opcode map (30_encoding.md R114, R116): the instruction of each opcode byte, given the two bytes after it. -/
def opcodeRow8 : List (Byte → Byte → Instr) :=
  [ fun _ _ => .illegal80,
    fun b _ => .staIzx b,
    fun _ _ => .illegal82,
    fun _ _ => .illegal83,
    fun b _ => .styZp b,
    fun b _ => .staZp b,
    fun b _ => .stxZp b,
    fun _ _ => .illegal87,
    fun _ _ => .dey,
    fun _ _ => .illegal89,
    fun _ _ => .txa,
    fun _ _ => .illegal8B,
    fun b c => .styAbs (Machine.word c b),
    fun b c => .staAbs (Machine.word c b),
    fun b c => .stxAbs (Machine.word c b),
    fun _ _ => .illegal8F ]

/-- Row 9x of the opcode map (30_encoding.md R114, R116): the instruction of each opcode byte, given the two bytes after it. -/
def opcodeRow9 : List (Byte → Byte → Instr) :=
  [ fun b _ => .bcc b,
    fun b _ => .staIzy b,
    fun _ _ => .illegal92,
    fun _ _ => .illegal93,
    fun b _ => .styZpx b,
    fun b _ => .staZpx b,
    fun b _ => .stxZpy b,
    fun _ _ => .illegal97,
    fun _ _ => .tya,
    fun b c => .staAby (Machine.word c b),
    fun _ _ => .txs,
    fun _ _ => .illegal9B,
    fun _ _ => .illegal9C,
    fun b c => .staAbx (Machine.word c b),
    fun _ _ => .illegal9E,
    fun _ _ => .illegal9F ]

/-- Row Ax of the opcode map (30_encoding.md R114, R116): the instruction of each opcode byte, given the two bytes after it. -/
def opcodeRowA : List (Byte → Byte → Instr) :=
  [ fun b _ => .ldyImm b,
    fun b _ => .ldaIzx b,
    fun b _ => .ldxImm b,
    fun _ _ => .illegalA3,
    fun b _ => .ldyZp b,
    fun b _ => .ldaZp b,
    fun b _ => .ldxZp b,
    fun _ _ => .illegalA7,
    fun _ _ => .tay,
    fun b _ => .ldaImm b,
    fun _ _ => .tax,
    fun _ _ => .illegalAB,
    fun b c => .ldyAbs (Machine.word c b),
    fun b c => .ldaAbs (Machine.word c b),
    fun b c => .ldxAbs (Machine.word c b),
    fun _ _ => .illegalAF ]

/-- Row Bx of the opcode map (30_encoding.md R114, R116): the instruction of each opcode byte, given the two bytes after it. -/
def opcodeRowB : List (Byte → Byte → Instr) :=
  [ fun b _ => .bcs b,
    fun b _ => .ldaIzy b,
    fun _ _ => .illegalB2,
    fun _ _ => .illegalB3,
    fun b _ => .ldyZpx b,
    fun b _ => .ldaZpx b,
    fun b _ => .ldxZpy b,
    fun _ _ => .illegalB7,
    fun _ _ => .clv,
    fun b c => .ldaAby (Machine.word c b),
    fun _ _ => .tsx,
    fun _ _ => .illegalBB,
    fun b c => .ldyAbx (Machine.word c b),
    fun b c => .ldaAbx (Machine.word c b),
    fun b c => .ldxAby (Machine.word c b),
    fun _ _ => .illegalBF ]

/-- Row Cx of the opcode map (30_encoding.md R114, R116): the instruction of each opcode byte, given the two bytes after it. -/
def opcodeRowC : List (Byte → Byte → Instr) :=
  [ fun b _ => .cpyImm b,
    fun b _ => .cmpIzx b,
    fun _ _ => .illegalC2,
    fun _ _ => .illegalC3,
    fun b _ => .cpyZp b,
    fun b _ => .cmpZp b,
    fun b _ => .decZp b,
    fun _ _ => .illegalC7,
    fun _ _ => .iny,
    fun b _ => .cmpImm b,
    fun _ _ => .dex,
    fun _ _ => .illegalCB,
    fun b c => .cpyAbs (Machine.word c b),
    fun b c => .cmpAbs (Machine.word c b),
    fun b c => .decAbs (Machine.word c b),
    fun _ _ => .illegalCF ]

/-- Row Dx of the opcode map (30_encoding.md R114, R116): the instruction of each opcode byte, given the two bytes after it. -/
def opcodeRowD : List (Byte → Byte → Instr) :=
  [ fun b _ => .bne b,
    fun b _ => .cmpIzy b,
    fun _ _ => .illegalD2,
    fun _ _ => .illegalD3,
    fun _ _ => .illegalD4,
    fun b _ => .cmpZpx b,
    fun b _ => .decZpx b,
    fun _ _ => .illegalD7,
    fun _ _ => .cld,
    fun b c => .cmpAby (Machine.word c b),
    fun _ _ => .illegalDA,
    fun _ _ => .illegalDB,
    fun _ _ => .illegalDC,
    fun b c => .cmpAbx (Machine.word c b),
    fun b c => .decAbx (Machine.word c b),
    fun _ _ => .illegalDF ]

/-- Row Ex of the opcode map (30_encoding.md R114, R116): the instruction of each opcode byte, given the two bytes after it. -/
def opcodeRowE : List (Byte → Byte → Instr) :=
  [ fun b _ => .cpxImm b,
    fun b _ => .sbcIzx b,
    fun _ _ => .illegalE2,
    fun _ _ => .illegalE3,
    fun b _ => .cpxZp b,
    fun b _ => .sbcZp b,
    fun b _ => .incZp b,
    fun _ _ => .illegalE7,
    fun _ _ => .inx,
    fun b _ => .sbcImm b,
    fun _ _ => .nop,
    fun _ _ => .illegalEB,
    fun b c => .cpxAbs (Machine.word c b),
    fun b c => .sbcAbs (Machine.word c b),
    fun b c => .incAbs (Machine.word c b),
    fun _ _ => .illegalEF ]

/-- Row Fx of the opcode map (30_encoding.md R114, R116): the instruction of each opcode byte, given the two bytes after it. -/
def opcodeRowF : List (Byte → Byte → Instr) :=
  [ fun b _ => .beq b,
    fun b _ => .sbcIzy b,
    fun _ _ => .illegalF2,
    fun _ _ => .illegalF3,
    fun _ _ => .illegalF4,
    fun b _ => .sbcZpx b,
    fun b _ => .incZpx b,
    fun _ _ => .illegalF7,
    fun _ _ => .sed,
    fun b c => .sbcAby (Machine.word c b),
    fun _ _ => .illegalFA,
    fun _ _ => .illegalFB,
    fun _ _ => .illegalFC,
    fun b c => .sbcAbx (Machine.word c b),
    fun b c => .incAbx (Machine.word c b),
    fun _ _ => .illegalFF ]

/-- The opcode map, 16 rows of 16. -/
def opcodeMap : List (List (Byte → Byte → Instr)) :=
  [ opcodeRow0, opcodeRow1, opcodeRow2, opcodeRow3, opcodeRow4, opcodeRow5, opcodeRow6, opcodeRow7, opcodeRow8, opcodeRow9, opcodeRowA, opcodeRowB, opcodeRowC, opcodeRowD, opcodeRowE, opcodeRowF ]

/-- The instruction whose opcode byte is `op` and whose operand bytes, as far as it has any, are `b` and then `c`
(30_encoding.md R110, R113). -/
def decodeOp (op b c : Byte) : Instr :=
  (opcodeMap.getD (op.toNat / 16) []).getD (op.toNat % 16) (fun _ _ => .illegal02) b c

/-- The lengths of the instructions of each opcode byte, in the order of the opcode map (30_encoding.md R111, R114). -/
def lengthMap : List (List Nat) :=
  [ [1, 2, 1, 1, 1, 2, 2, 1, 1, 2, 1, 1, 1, 3, 3, 1],
    [2, 2, 1, 1, 1, 2, 2, 1, 1, 3, 1, 1, 1, 3, 3, 1],
    [3, 2, 1, 1, 2, 2, 2, 1, 1, 2, 1, 1, 3, 3, 3, 1],
    [2, 2, 1, 1, 1, 2, 2, 1, 1, 3, 1, 1, 1, 3, 3, 1],
    [1, 2, 1, 1, 1, 2, 2, 1, 1, 2, 1, 1, 3, 3, 3, 1],
    [2, 2, 1, 1, 1, 2, 2, 1, 1, 3, 1, 1, 1, 3, 3, 1],
    [1, 2, 1, 1, 1, 2, 2, 1, 1, 2, 1, 1, 3, 3, 3, 1],
    [2, 2, 1, 1, 1, 2, 2, 1, 1, 3, 1, 1, 1, 3, 3, 1],
    [1, 2, 1, 1, 2, 2, 2, 1, 1, 1, 1, 1, 3, 3, 3, 1],
    [2, 2, 1, 1, 2, 2, 2, 1, 1, 3, 1, 1, 1, 3, 1, 1],
    [2, 2, 2, 1, 2, 2, 2, 1, 1, 2, 1, 1, 3, 3, 3, 1],
    [2, 2, 1, 1, 2, 2, 2, 1, 1, 3, 1, 1, 3, 3, 3, 1],
    [2, 2, 1, 1, 2, 2, 2, 1, 1, 2, 1, 1, 3, 3, 3, 1],
    [2, 2, 1, 1, 1, 2, 2, 1, 1, 3, 1, 1, 1, 3, 3, 1],
    [2, 2, 1, 1, 2, 2, 2, 1, 1, 2, 1, 1, 3, 3, 3, 1],
    [2, 2, 1, 1, 1, 2, 2, 1, 1, 3, 1, 1, 1, 3, 3, 1] ]

/-- The length in bytes of the instruction with opcode byte `op` (30_encoding.md R110). -/
def instrLength (op : Byte) : Nat := (lengthMap.getD (op.toNat / 16) []).getD (op.toNat % 16) 1

/-- The instruction at the head of a list of bytes, and the bytes after it. -/
def decode : List Byte → Except DecodeError (Instr × List Byte)
  | [] => .error .noOpcode
  | op :: rest =>
    match instrLength op, rest with
    | 1, r => .ok (decodeOp op 0#8 0#8, r)
    | 2, b :: r => .ok (decodeOp op b 0#8, r)
    | 3, b :: c :: r => .ok (decodeOp op b c, r)
    | _, _ => .error (.truncated op)

/-- The bytes of an instruction: opcode byte, then operand bytes, low byte first (30_encoding.md R111, R113). -/
def encode : Instr → List Byte
  | .brk => [0x00#8]
  | .oraIzx z => [0x01#8, z]
  | .illegal02 => [0x02#8]
  | .illegal03 => [0x03#8]
  | .illegal04 => [0x04#8]
  | .oraZp z => [0x05#8, z]
  | .aslZp z => [0x06#8, z]
  | .illegal07 => [0x07#8]
  | .php => [0x08#8]
  | .oraImm v => [0x09#8, v]
  | .aslAcc => [0x0A#8]
  | .illegal0B => [0x0B#8]
  | .illegal0C => [0x0C#8]
  | .oraAbs w => [0x0D#8, Machine.lo w, Machine.hi w]
  | .aslAbs w => [0x0E#8, Machine.lo w, Machine.hi w]
  | .illegal0F => [0x0F#8]
  | .bpl off => [0x10#8, off]
  | .oraIzy z => [0x11#8, z]
  | .illegal12 => [0x12#8]
  | .illegal13 => [0x13#8]
  | .illegal14 => [0x14#8]
  | .oraZpx z => [0x15#8, z]
  | .aslZpx z => [0x16#8, z]
  | .illegal17 => [0x17#8]
  | .clc => [0x18#8]
  | .oraAby w => [0x19#8, Machine.lo w, Machine.hi w]
  | .illegal1A => [0x1A#8]
  | .illegal1B => [0x1B#8]
  | .illegal1C => [0x1C#8]
  | .oraAbx w => [0x1D#8, Machine.lo w, Machine.hi w]
  | .aslAbx w => [0x1E#8, Machine.lo w, Machine.hi w]
  | .illegal1F => [0x1F#8]
  | .jsr w => [0x20#8, Machine.lo w, Machine.hi w]
  | .andIzx z => [0x21#8, z]
  | .illegal22 => [0x22#8]
  | .illegal23 => [0x23#8]
  | .bitZp z => [0x24#8, z]
  | .andZp z => [0x25#8, z]
  | .rolZp z => [0x26#8, z]
  | .illegal27 => [0x27#8]
  | .plp => [0x28#8]
  | .andImm v => [0x29#8, v]
  | .rolAcc => [0x2A#8]
  | .illegal2B => [0x2B#8]
  | .bitAbs w => [0x2C#8, Machine.lo w, Machine.hi w]
  | .andAbs w => [0x2D#8, Machine.lo w, Machine.hi w]
  | .rolAbs w => [0x2E#8, Machine.lo w, Machine.hi w]
  | .illegal2F => [0x2F#8]
  | .bmi off => [0x30#8, off]
  | .andIzy z => [0x31#8, z]
  | .illegal32 => [0x32#8]
  | .illegal33 => [0x33#8]
  | .illegal34 => [0x34#8]
  | .andZpx z => [0x35#8, z]
  | .rolZpx z => [0x36#8, z]
  | .illegal37 => [0x37#8]
  | .sec => [0x38#8]
  | .andAby w => [0x39#8, Machine.lo w, Machine.hi w]
  | .illegal3A => [0x3A#8]
  | .illegal3B => [0x3B#8]
  | .illegal3C => [0x3C#8]
  | .andAbx w => [0x3D#8, Machine.lo w, Machine.hi w]
  | .rolAbx w => [0x3E#8, Machine.lo w, Machine.hi w]
  | .illegal3F => [0x3F#8]
  | .rti => [0x40#8]
  | .eorIzx z => [0x41#8, z]
  | .illegal42 => [0x42#8]
  | .illegal43 => [0x43#8]
  | .illegal44 => [0x44#8]
  | .eorZp z => [0x45#8, z]
  | .lsrZp z => [0x46#8, z]
  | .illegal47 => [0x47#8]
  | .pha => [0x48#8]
  | .eorImm v => [0x49#8, v]
  | .lsrAcc => [0x4A#8]
  | .illegal4B => [0x4B#8]
  | .jmpAbs w => [0x4C#8, Machine.lo w, Machine.hi w]
  | .eorAbs w => [0x4D#8, Machine.lo w, Machine.hi w]
  | .lsrAbs w => [0x4E#8, Machine.lo w, Machine.hi w]
  | .illegal4F => [0x4F#8]
  | .bvc off => [0x50#8, off]
  | .eorIzy z => [0x51#8, z]
  | .illegal52 => [0x52#8]
  | .illegal53 => [0x53#8]
  | .illegal54 => [0x54#8]
  | .eorZpx z => [0x55#8, z]
  | .lsrZpx z => [0x56#8, z]
  | .illegal57 => [0x57#8]
  | .cli => [0x58#8]
  | .eorAby w => [0x59#8, Machine.lo w, Machine.hi w]
  | .illegal5A => [0x5A#8]
  | .illegal5B => [0x5B#8]
  | .illegal5C => [0x5C#8]
  | .eorAbx w => [0x5D#8, Machine.lo w, Machine.hi w]
  | .lsrAbx w => [0x5E#8, Machine.lo w, Machine.hi w]
  | .illegal5F => [0x5F#8]
  | .rts => [0x60#8]
  | .adcIzx z => [0x61#8, z]
  | .illegal62 => [0x62#8]
  | .illegal63 => [0x63#8]
  | .illegal64 => [0x64#8]
  | .adcZp z => [0x65#8, z]
  | .rorZp z => [0x66#8, z]
  | .illegal67 => [0x67#8]
  | .pla => [0x68#8]
  | .adcImm v => [0x69#8, v]
  | .rorAcc => [0x6A#8]
  | .illegal6B => [0x6B#8]
  | .jmpInd w => [0x6C#8, Machine.lo w, Machine.hi w]
  | .adcAbs w => [0x6D#8, Machine.lo w, Machine.hi w]
  | .rorAbs w => [0x6E#8, Machine.lo w, Machine.hi w]
  | .illegal6F => [0x6F#8]
  | .bvs off => [0x70#8, off]
  | .adcIzy z => [0x71#8, z]
  | .illegal72 => [0x72#8]
  | .illegal73 => [0x73#8]
  | .illegal74 => [0x74#8]
  | .adcZpx z => [0x75#8, z]
  | .rorZpx z => [0x76#8, z]
  | .illegal77 => [0x77#8]
  | .sei => [0x78#8]
  | .adcAby w => [0x79#8, Machine.lo w, Machine.hi w]
  | .illegal7A => [0x7A#8]
  | .illegal7B => [0x7B#8]
  | .illegal7C => [0x7C#8]
  | .adcAbx w => [0x7D#8, Machine.lo w, Machine.hi w]
  | .rorAbx w => [0x7E#8, Machine.lo w, Machine.hi w]
  | .illegal7F => [0x7F#8]
  | .illegal80 => [0x80#8]
  | .staIzx z => [0x81#8, z]
  | .illegal82 => [0x82#8]
  | .illegal83 => [0x83#8]
  | .styZp z => [0x84#8, z]
  | .staZp z => [0x85#8, z]
  | .stxZp z => [0x86#8, z]
  | .illegal87 => [0x87#8]
  | .dey => [0x88#8]
  | .illegal89 => [0x89#8]
  | .txa => [0x8A#8]
  | .illegal8B => [0x8B#8]
  | .styAbs w => [0x8C#8, Machine.lo w, Machine.hi w]
  | .staAbs w => [0x8D#8, Machine.lo w, Machine.hi w]
  | .stxAbs w => [0x8E#8, Machine.lo w, Machine.hi w]
  | .illegal8F => [0x8F#8]
  | .bcc off => [0x90#8, off]
  | .staIzy z => [0x91#8, z]
  | .illegal92 => [0x92#8]
  | .illegal93 => [0x93#8]
  | .styZpx z => [0x94#8, z]
  | .staZpx z => [0x95#8, z]
  | .stxZpy z => [0x96#8, z]
  | .illegal97 => [0x97#8]
  | .tya => [0x98#8]
  | .staAby w => [0x99#8, Machine.lo w, Machine.hi w]
  | .txs => [0x9A#8]
  | .illegal9B => [0x9B#8]
  | .illegal9C => [0x9C#8]
  | .staAbx w => [0x9D#8, Machine.lo w, Machine.hi w]
  | .illegal9E => [0x9E#8]
  | .illegal9F => [0x9F#8]
  | .ldyImm v => [0xA0#8, v]
  | .ldaIzx z => [0xA1#8, z]
  | .ldxImm v => [0xA2#8, v]
  | .illegalA3 => [0xA3#8]
  | .ldyZp z => [0xA4#8, z]
  | .ldaZp z => [0xA5#8, z]
  | .ldxZp z => [0xA6#8, z]
  | .illegalA7 => [0xA7#8]
  | .tay => [0xA8#8]
  | .ldaImm v => [0xA9#8, v]
  | .tax => [0xAA#8]
  | .illegalAB => [0xAB#8]
  | .ldyAbs w => [0xAC#8, Machine.lo w, Machine.hi w]
  | .ldaAbs w => [0xAD#8, Machine.lo w, Machine.hi w]
  | .ldxAbs w => [0xAE#8, Machine.lo w, Machine.hi w]
  | .illegalAF => [0xAF#8]
  | .bcs off => [0xB0#8, off]
  | .ldaIzy z => [0xB1#8, z]
  | .illegalB2 => [0xB2#8]
  | .illegalB3 => [0xB3#8]
  | .ldyZpx z => [0xB4#8, z]
  | .ldaZpx z => [0xB5#8, z]
  | .ldxZpy z => [0xB6#8, z]
  | .illegalB7 => [0xB7#8]
  | .clv => [0xB8#8]
  | .ldaAby w => [0xB9#8, Machine.lo w, Machine.hi w]
  | .tsx => [0xBA#8]
  | .illegalBB => [0xBB#8]
  | .ldyAbx w => [0xBC#8, Machine.lo w, Machine.hi w]
  | .ldaAbx w => [0xBD#8, Machine.lo w, Machine.hi w]
  | .ldxAby w => [0xBE#8, Machine.lo w, Machine.hi w]
  | .illegalBF => [0xBF#8]
  | .cpyImm v => [0xC0#8, v]
  | .cmpIzx z => [0xC1#8, z]
  | .illegalC2 => [0xC2#8]
  | .illegalC3 => [0xC3#8]
  | .cpyZp z => [0xC4#8, z]
  | .cmpZp z => [0xC5#8, z]
  | .decZp z => [0xC6#8, z]
  | .illegalC7 => [0xC7#8]
  | .iny => [0xC8#8]
  | .cmpImm v => [0xC9#8, v]
  | .dex => [0xCA#8]
  | .illegalCB => [0xCB#8]
  | .cpyAbs w => [0xCC#8, Machine.lo w, Machine.hi w]
  | .cmpAbs w => [0xCD#8, Machine.lo w, Machine.hi w]
  | .decAbs w => [0xCE#8, Machine.lo w, Machine.hi w]
  | .illegalCF => [0xCF#8]
  | .bne off => [0xD0#8, off]
  | .cmpIzy z => [0xD1#8, z]
  | .illegalD2 => [0xD2#8]
  | .illegalD3 => [0xD3#8]
  | .illegalD4 => [0xD4#8]
  | .cmpZpx z => [0xD5#8, z]
  | .decZpx z => [0xD6#8, z]
  | .illegalD7 => [0xD7#8]
  | .cld => [0xD8#8]
  | .cmpAby w => [0xD9#8, Machine.lo w, Machine.hi w]
  | .illegalDA => [0xDA#8]
  | .illegalDB => [0xDB#8]
  | .illegalDC => [0xDC#8]
  | .cmpAbx w => [0xDD#8, Machine.lo w, Machine.hi w]
  | .decAbx w => [0xDE#8, Machine.lo w, Machine.hi w]
  | .illegalDF => [0xDF#8]
  | .cpxImm v => [0xE0#8, v]
  | .sbcIzx z => [0xE1#8, z]
  | .illegalE2 => [0xE2#8]
  | .illegalE3 => [0xE3#8]
  | .cpxZp z => [0xE4#8, z]
  | .sbcZp z => [0xE5#8, z]
  | .incZp z => [0xE6#8, z]
  | .illegalE7 => [0xE7#8]
  | .inx => [0xE8#8]
  | .sbcImm v => [0xE9#8, v]
  | .nop => [0xEA#8]
  | .illegalEB => [0xEB#8]
  | .cpxAbs w => [0xEC#8, Machine.lo w, Machine.hi w]
  | .sbcAbs w => [0xED#8, Machine.lo w, Machine.hi w]
  | .incAbs w => [0xEE#8, Machine.lo w, Machine.hi w]
  | .illegalEF => [0xEF#8]
  | .beq off => [0xF0#8, off]
  | .sbcIzy z => [0xF1#8, z]
  | .illegalF2 => [0xF2#8]
  | .illegalF3 => [0xF3#8]
  | .illegalF4 => [0xF4#8]
  | .sbcZpx z => [0xF5#8, z]
  | .incZpx z => [0xF6#8, z]
  | .illegalF7 => [0xF7#8]
  | .sed => [0xF8#8]
  | .sbcAby w => [0xF9#8, Machine.lo w, Machine.hi w]
  | .illegalFA => [0xFA#8]
  | .illegalFB => [0xFB#8]
  | .illegalFC => [0xFC#8]
  | .sbcAbx w => [0xFD#8, Machine.lo w, Machine.hi w]
  | .incAbx w => [0xFE#8, Machine.lo w, Machine.hi w]
  | .illegalFF => [0xFF#8]

/-- The bytes of an instruction whose bits are `w`, numbered as the opcode table numbers them: the first byte is bits
7..0; three bytes, the longest instruction; every bit from `nbits` up is 0. -/
def tableBytes (nbits w : Nat) : List Byte :=
  let x := w % 2 ^ nbits
  [BitVec.ofNat 8 x, BitVec.ofNat 8 (x / 256), BitVec.ofNat 8 (x / 65536)]

/-- The instruction the decoder reads from the bits of an opcode-table row. -/
def decodeTableWord (nbits w : Nat) : Option Instr :=
  match decode (tableBytes nbits w) with
  | .ok (i, _) => some i
  | .error _ => none

end Sys2Proof
end

