-- ==== Sys2Proof/Machine/Fetch.lean ====
section
/-! DEFINITION. Fetching an instruction's bytes (40_addressing_modes.md R130, 30_encoding.md R121), and placing them. -/

namespace Sys2Proof.Machine

/-- The bytes of an instruction, and the state after they are fetched. -/
structure Fetched where
  bytes : List Byte
  state : State
  deriving DecidableEq, Repr

/-- `n` successive `Fetch8`s (30_encoding.md R121). -/
def fetchBytes : Nat → State → Fetched
  | 0, s => { bytes := [], state := s }
  | n + 1, s =>
    let b := fetch8 s
    let rest := fetchBytes n b.state
    { bytes := b.value :: rest.bytes, state := rest.state }

/-- The opcode byte, and then as many operand bytes as it has (30_encoding.md R110, R121). -/
def fetch (s : State) : Fetched :=
  let op := fetch8 s
  let rest := fetchBytes (instrLength op.value - 1) op.state
  { bytes := op.value :: rest.bytes, state := rest.state }

/-- The instruction in the bytes fetched; a byte that is missing counts as 0, but `fetch` leaves none out
(`decode_fetch`, Laws/Fetch.lean). -/
def fetchedInstr (bytes : List Byte) : Instr := decodeOp (bytes.getD 0 0#8) (bytes.getD 1 0#8) (bytes.getD 2 0#8)

/-- Whether a CPU address is backed by plain memory, so that a byte can be placed there: not the PPU window, not $4016. -/
def storable (a : Word) : Bool := decide (a.toNat ≤ 0x1FFF) || (decide (0x4000 ≤ a.toNat) && decide (a ≠ 0x4016#16))

/-- The state with byte `b` in the plain memory behind CPU address `a`, as the cartridge or the launch contents would
hold it: program ROM included. This is loading from outside, not a write of the machine (log 4). -/
def placeByte (s : State) (a : Word) (b : Byte) : State :=
  if a.toNat ≤ 0x1FFF then { s with ram := s.ram.write (ramIndex a) b }
  else if 0x8000 ≤ a.toNat then
    { s with config := { s.config with prg := s.config.prg.write (prgOffset s.config a) b } }
  else if inPrgRam s.config a then { s with prgRam := s.prgRam.write (a.toNat - 0x6000) b }
  else { s with unmapped := s.unmapped.write a.toNat b }

/-- The bytes placed at `a` and the addresses after it. -/
def placeBytes : List Byte → Word → State → State
  | [], _, s => s
  | b :: rest, a, s => placeBytes rest (a + 1#16) (placeByte s a b)

/-- Where an instruction can be placed to be fetched next: at `pc`, or at $8000 when the three bytes from `pc` on are
not all plain memory. -/
def placeToFetch (s : State) : Word :=
  let a := s.cpu.pc
  if storable a && storable (a + 1#16) && storable (a + 2#16) then a else 0x8000#16

/-- The state in which the next step fetches the bytes given: they stand at `pc`, no cycle is owed, and the host does
nothing at the coming tick boundary (log 4). -/
def placeInstruction (bytes : List Byte) (s : State) : State :=
  let a := placeToFetch s
  let s1 := placeBytes bytes a s
  { s1 with cpu := { s1.cpu with pc := a, debt := 0 }, hostScript := [] :: s1.hostScript.tail }

end Sys2Proof.Machine
end

