-- ==== Sys2Proof/Machine/PpuBackground.lean ====
section
/-! DEFINITION. The PPU's background pipeline: fetches, shifting, and the changes of the VRAM address
(48_ppu_pipeline.md R294 to R304). Every action takes the scanline `s` and cycle `c` on entry to the PPU step. -/

namespace Sys2Proof.Machine

/-- "Rendering enabled" (47_ppu_registers.md R263). -/
def renderingEnabled (p : Ppu) : Bool := p.mask.getLsbD 3 || p.mask.getLsbD 4

/-- The window of the background fetches (48_ppu_pipeline.md R290 action 2). -/
def inFetchWindow (s : Int) (c : Nat) : Bool :=
  decide (s ≤ 239) && (decide (1 ≤ c) && decide (c ≤ 256) || decide (321 ≤ c) && decide (c ≤ 336))

/-- The window of the visible pixels (48_ppu_pipeline.md R290 action 3). -/
def inVisibleWindow (s : Int) (c : Nat) : Bool :=
  decide (0 ≤ s) && decide (s ≤ 239) && decide (1 ≤ c) && decide (c ≤ 256)

/-- The low byte of a shift register replaced (48_ppu_pipeline.md R295). -/
def reloadLow (r : Word) (b : Byte) : Word := (r &&& 0xFF00#16) ||| zext16 b

/-- `ReloadShifters()` (48_ppu_pipeline.md R295). -/
def reloadShifters (p : Ppu) : Ppu :=
  { p with
    bgPatLo := reloadLow p.bgPatLo p.patLoLatch
    bgPatHi := reloadLow p.bgPatHi p.patHiLatch
    bgAtLo := reloadLow p.bgAtLo (if p.atLatch.getLsbD 0 then 0xFF#8 else 0x00#8)
    bgAtHi := reloadLow p.bgAtHi (if p.atLatch.getLsbD 1 then 0xFF#8 else 0x00#8) }

/-- Nametable fetch (48_ppu_pipeline.md R296). -/
def fetchNametable (c : Config) (chrRam : Memory 8) (p : Ppu) : Ppu :=
  { p with ntLatch := ppuRead c chrRam p (0x2000#16 ||| (p.v &&& 0x0FFF#16)) }

/-- The address of the attribute byte (48_ppu_pipeline.md R297). -/
def attributeAddress (v : Word) : Word :=
  0x23C0#16 ||| (v &&& 0x0C00#16) ||| ((v >>> 4) &&& 0x38#16) ||| ((v >>> 2) &&& 0x07#16)

/-- Which quadrant of the attribute byte is used (48_ppu_pipeline.md R297). -/
def attributeShift (v : Word) : Nat := (((v >>> 4) &&& 0x04#16) ||| (v &&& 0x02#16)).toNat

/-- Attribute fetch (48_ppu_pipeline.md R297). -/
def fetchAttribute (c : Config) (chrRam : Memory 8) (p : Ppu) : Ppu :=
  { p with atLatch := (ppuRead c chrRam p (attributeAddress p.v) >>> attributeShift p.v).setWidth 2 }

/-- The address of a tile row's low plane (48_ppu_pipeline.md R298). -/
def patternAddress (p : Ppu) : Word :=
  BitVec.ofNat 16 ((bitNat p.ctrl 4 <<< 12) ||| (p.ntLatch.toNat <<< 4) ||| field p.v 12 3)

/-- Pattern low fetch (48_ppu_pipeline.md R298). -/
def fetchPatternLow (c : Config) (chrRam : Memory 8) (p : Ppu) : Ppu :=
  { p with patLoLatch := ppuRead c chrRam p (patternAddress p) }

/-- Pattern high fetch (48_ppu_pipeline.md R299). -/
def fetchPatternHigh (c : Config) (chrRam : Memory 8) (p : Ppu) : Ppu :=
  { p with patHiLatch := ppuRead c chrRam p (patternAddress p ||| 8#16) }

/-- The VRAM address after `IncCoarseX()` (48_ppu_pipeline.md R300). -/
def incCoarseX (v : Word) : Word :=
  if field v 0 5 = 31 then putField v 0 5 0 ^^^ 0x0400#16 else putField v 0 5 (field v 0 5 + 1)

/-- The VRAM address after `IncY()` (48_ppu_pipeline.md R302). -/
def incY (v : Word) : Word :=
  if field v 12 3 < 7 then putField v 12 3 (field v 12 3 + 1)
  else
    let v0 := putField v 12 3 0
    if field v0 5 5 = 29 then putField v0 5 5 0 ^^^ 0x0800#16
    else if field v0 5 5 = 31 then putField v0 5 5 0
    else putField v0 5 5 (field v0 5 5 + 1)

/-- The horizontal copy: `v[4:0] <- t[4:0]; v[10] <- t[10]` (48_ppu_pipeline.md R303). -/
def copyHorizontal (t v : Word) : Word := putField (putField v 0 5 (field t 0 5)) 10 1 (field t 10 1)

/-- The vertical copy: `v[9:5]`, `v[11]` and `v[14:12]` from `t` (48_ppu_pipeline.md R304). -/
def copyVertical (t v : Word) : Word :=
  putField (putField (putField v 5 5 (field t 5 5)) 11 1 (field t 11 1)) 12 3 (field t 12 3)

/-- The background fetch phase of one cycle (48_ppu_pipeline.md R294). -/
def fetchPhase (c : Config) (chrRam : Memory 8) (cyc : Nat) (p : Ppu) : Ppu :=
  match (cyc - 1) % 8 with
  | 0 => fetchNametable c chrRam (reloadShifters p)
  | 2 => fetchAttribute c chrRam p
  | 4 => fetchPatternLow c chrRam p
  | 6 => fetchPatternHigh c chrRam p
  | 7 => if renderingEnabled p then { p with v := incCoarseX p.v } else p
  | _ => p

/-- Action 2 of the PPU step (48_ppu_pipeline.md R290). -/
def backgroundFetch (c : Config) (chrRam : Memory 8) (s : Int) (cyc : Nat) (p : Ppu) : Ppu :=
  if inFetchWindow s cyc then fetchPhase c chrRam cyc p else p

/-- Action 4 of the PPU step: shifting (48_ppu_pipeline.md R301). -/
def shiftBackground (s : Int) (cyc : Nat) (p : Ppu) : Ppu :=
  if inFetchWindow s cyc && p.mask.getLsbD 3 then
    { p with bgPatLo := p.bgPatLo <<< 1, bgPatHi := p.bgPatHi <<< 1, bgAtLo := p.bgAtLo <<< 1, bgAtHi := p.bgAtHi <<< 1 }
  else p

/-- Action 6 of the PPU step: Y increment, horizontal copy, vertical copy (48_ppu_pipeline.md R302 to R304). -/
def updateAddress (s : Int) (cyc : Nat) (p : Ppu) : Ppu :=
  if decide (s ≤ 239) && renderingEnabled p then
    if cyc = 256 then { p with v := incY p.v }
    else if cyc = 257 then { p with v := copyHorizontal p.t p.v }
    else if s = -1 ∧ 280 ≤ cyc ∧ cyc ≤ 304 then { p with v := copyVertical p.t p.v }
    else p
  else p

end Sys2Proof.Machine
end

