-- ==== Sys2Proof/Machine/PpuSprites.lean ====
section
/-! DEFINITION. The PPU's sprites: evaluation, fetch and the sprite slots (48_ppu_pipeline.md R305 to R316). -/

namespace Sys2Proof.Machine

/-- The height of a sprite (48_ppu_pipeline.md R311, R314). -/
def spriteHeight (p : Ppu) : Nat := if p.ctrl.getLsbD 5 then 16 else 8

/-- `InRange(y)`, the formula of 48_ppu_pipeline.md R311. For `y` = $EF on scanline 239 that formula holds, while the
rule's derived sentence calls $EF never in range; the model follows the formula (DESIGN CHOICE, log 14; unsafe). -/
def spriteInRange (s : Int) (p : Ppu) (y : Byte) : Bool :=
  decide (0 ≤ s - (y.toNat : Int)) && decide (s - (y.toNat : Int) < (spriteHeight p : Int))

/-- Secondary-OAM clear on the even cycles 2 to 64 (48_ppu_pipeline.md R305). -/
def clearSecondary (cyc : Nat) (p : Ppu) : Ppu := { p with soam := p.soam.write (cyc / 2 - 1) 0xFF#8 }

/-- Evaluation start at cycle 65 (48_ppu_pipeline.md R306). -/
def startEvaluation (p : Ppu) : Ppu :=
  { p with evN := 0#6, evM := 0#2, evFound := 0, evMode := .scan, spr0Next := false }

/-- The read of an odd evaluation cycle (48_ppu_pipeline.md R307). -/
def evaluationRead (p : Ppu) : Ppu :=
  if p.evMode = .done then p
  else { p with evLatch := p.oam.read ((4 * p.evN.toNat + p.evM.toNat) % 256) }

/-- The mode after the scan moves on to sprite `n`: done once all 64 have been seen (48_ppu_pipeline.md R308 to R310). -/
def afterSprite (n : BitVec 6) (mode : EvalMode) : EvalMode := if n = 0#6 then .done else mode

/-- An even evaluation cycle in mode Scan (48_ppu_pipeline.md R308). -/
def evaluateScan (s : Int) (p : Ppu) : Ppu :=
  let p1 := { p with soam := p.soam.write (4 * p.evFound) p.evLatch }
  if spriteInRange s p p.evLatch then
    { p1 with spr0Next := p.spr0Next || decide (p.evN = 0#6), evM := 1#2, evMode := .copy }
  else
    { p1 with evN := p.evN + 1#6, evMode := afterSprite (p.evN + 1#6) .scan }

/-- An even evaluation cycle in mode Copy (48_ppu_pipeline.md R309). -/
def evaluateCopy (p : Ppu) : Ppu :=
  let p1 := { p with soam := p.soam.write (4 * p.evFound + p.evM.toNat) p.evLatch }
  if p.evM = 3#2 then
    { p1 with
      evM := 0#2
      evFound := p.evFound + 1
      evN := p.evN + 1#6
      evMode := afterSprite (p.evN + 1#6) (if p.evFound + 1 = 8 then .ovfScan else .scan) }
  else { p1 with evM := p.evM + 1#2 }

/-- An even evaluation cycle in mode OvfScan, with the bug: `m` moves with `n` (48_ppu_pipeline.md R310). -/
def evaluateOverflow (s : Int) (p : Ppu) : Ppu :=
  if spriteInRange s p p.evLatch then { p with sprOverflow := true, evMode := .done }
  else
    { p with evN := p.evN + 1#6, evM := p.evM + 1#2, evMode := afterSprite (p.evN + 1#6) .ovfScan }

/-- The action of an even evaluation cycle (48_ppu_pipeline.md R307). -/
def evaluationWrite (s : Int) (p : Ppu) : Ppu :=
  match p.evMode with
  | .scan => evaluateScan s p
  | .copy => evaluateCopy p
  | .ovfScan => evaluateOverflow s p
  | .done => p

/-- The evaluation's action at cycle `cyc`, 1 to 256 (48_ppu_pipeline.md R305 to R307). -/
def evaluationCycle (s : Int) (cyc : Nat) (p : Ppu) : Ppu :=
  if cyc ≤ 64 then if cyc % 2 = 0 then clearSecondary cyc p else p
  else if cyc = 65 then evaluationRead (startEvaluation p)
  else if cyc % 2 = 1 then evaluationRead p
  else evaluationWrite s p

/-- Action 7 of the PPU step (48_ppu_pipeline.md R290). -/
def evaluateSprites (s : Int) (cyc : Nat) (p : Ppu) : Ppu :=
  if inVisibleWindow s cyc && renderingEnabled p then evaluationCycle s cyc p else p

/-- The row of slot `i`'s sprite on scanline `s`, flipped when its attribute says so (48_ppu_pipeline.md R314). -/
def spriteRow (s : Int) (p : Ppu) (y attr : Byte) : Int :=
  let row := s - (y.toNat : Int)
  if attr.getLsbD 7 then (spriteHeight p : Int) - 1 - row else row

/-- The pattern address of row `row` of tile `tile` (48_ppu_pipeline.md R314). -/
def spriteRowAddress (p : Ppu) (tile : Byte) (row : Nat) : Nat :=
  if p.ctrl.getLsbD 5 then
    ((tile.toNat % 2) <<< 12) ||| (((tile &&& 0xFE#8).toNat + (row >>> 3)) <<< 4) ||| (row % 8)
  else (bitNat p.ctrl 3 <<< 12) ||| (tile.toNat <<< 4) ||| row

/-- The pattern address of a sprite (48_ppu_pipeline.md R314): the rule's formula, and a free address where the row
comes out negative, for which the rule states none (log 6). -/
def spriteAddress (s : Int) (p : Ppu) (y tile attr : Byte) : Word :=
  let row := spriteRow s p y attr
  if 0 ≤ row then BitVec.ofNat 16 (spriteRowAddress p tile row.toNat)
  else Config.straySpriteAddress s y tile attr p.ctrl

/-- `Flip(b)` (48_ppu_pipeline.md R315). -/
def flipPattern (attr b : Byte) : Byte := if attr.getLsbD 6 then reverseBits b else b

/-- The byte of secondary OAM at field `k` of slot `i` (10_state.md R39). -/
def slotByte (p : Ppu) (i k : Nat) : Byte := p.soam.read (4 * i + k)

/-- The pattern address of slot `i` (48_ppu_pipeline.md R314). -/
def slotAddress (s : Int) (p : Ppu) (i : Nat) : Word :=
  spriteAddress s p (slotByte p i 0) (slotByte p i 1) (slotByte p i 2)

/-- What slot `i` loads from pattern address `a`: nothing visible when the slot is not used (48_ppu_pipeline.md R313, R315). -/
def slotPattern (c : Config) (chrRam : Memory 8) (p : Ppu) (i : Nat) (a : Word) : Byte :=
  if i < p.evFound then flipPattern (slotByte p i 2) (ppuRead c chrRam p a) else 0#8

/-- The fetch of slot `i` in its `j`-th cycle (48_ppu_pipeline.md R315). -/
def fetchSlot (c : Config) (chrRam : Memory 8) (s : Int) (i j : Nat) (p : Ppu) : Ppu :=
  match j with
  | 0 => { p with slots := p.slots.modify i fun sl => { sl with attr := slotByte p i 2, x := slotByte p i 3 } }
  | 4 =>
    let b := slotPattern c chrRam p i (slotAddress s p i)
    { p with slots := p.slots.modify i fun sl => { sl with lo := b } }
  | 6 =>
    let b := slotPattern c chrRam p i (slotAddress s p i ||| 8#16)
    { p with slots := p.slots.modify i fun sl => { sl with hi := b } }
  | _ => p

/-- Action 8 of the PPU step: sprite fetch (48_ppu_pipeline.md R313). -/
def fetchSprites (c : Config) (chrRam : Memory 8) (s : Int) (cyc : Nat) (p : Ppu) : Ppu :=
  if decide (0 ≤ s) && decide (s ≤ 239) && renderingEnabled p && decide (257 ≤ cyc) && decide (cyc ≤ 320) then
    let p1 := if cyc = 257 then { p with spr0Cur := p.spr0Next } else p
    fetchSlot c chrRam s ((cyc - 257) / 8) ((cyc - 257) % 8) p1
  else p

/-- One slot's advance: its counter runs down, then its pattern shifts (48_ppu_pipeline.md R316). -/
def advanceSlot (sl : SpriteSlot) : SpriteSlot :=
  if sl.x = 0#8 then { sl with lo := sl.lo <<< 1, hi := sl.hi <<< 1 } else { sl with x := sl.x - 1#8 }

/-- Action 5 of the PPU step (48_ppu_pipeline.md R316). -/
def advanceSlots (s : Int) (cyc : Nat) (p : Ppu) : Ppu :=
  if inVisibleWindow s cyc && renderingEnabled p then { p with slots := p.slots.map advanceSlot } else p

end Sys2Proof.Machine
end

