-- ==== Sys2Proof/Machine/PpuPixel.lean ====
section
/-! DEFINITION. Pixel compositing, the sprite-0 hit and the colour output (48_ppu_pipeline.md R317 to R322). -/

namespace Sys2Proof.Machine

/-- A pixel of one layer: its 2-bit value and its palette. -/
structure LayerPixel where
  pix : Nat
  pal : Nat
  deriving DecidableEq, Repr

/-- The sprite layer's pixel (48_ppu_pipeline.md R318). -/
structure SpritePixel where
  pix : Nat
  pal : Nat
  front : Bool
  isSprite0 : Bool
  deriving DecidableEq, Repr

/-- The number whose high bit is `h` and low bit `l`. -/
def twoBits (h l : Bool) : Nat := 2 * h.toNat + l.toNat

/-- The background pixel at column `x` (48_ppu_pipeline.md R317). -/
def backgroundPixel (p : Ppu) (x : Nat) : LayerPixel :=
  let b := 15 - p.fineX.toNat
  if p.mask.getLsbD 3 && (decide (8 ≤ x) || p.mask.getLsbD 1) then
    { pix := twoBits (p.bgPatHi.getLsbD b) (p.bgPatLo.getLsbD b), pal := twoBits (p.bgAtHi.getLsbD b) (p.bgAtLo.getLsbD b) }
  else { pix := 0, pal := 0 }

/-- The pixel a slot shows now: 0 until its counter has run down (48_ppu_pipeline.md R318). -/
def slotPixel (sl : SpriteSlot) : Nat :=
  if sl.x = 0#8 then twoBits (sl.hi.getLsbD 7) (sl.lo.getLsbD 7) else 0

/-- The first opaque pixel among the slots from index `i` on (48_ppu_pipeline.md R318). -/
def firstOpaque (spr0Cur : Bool) : Nat → List SpriteSlot → SpritePixel
  | _, [] => { pix := 0, pal := 0, front := false, isSprite0 := false }
  | i, sl :: rest =>
    if slotPixel sl = 0 then firstOpaque spr0Cur (i + 1) rest
    else
      { pix := slotPixel sl
        pal := sl.attr.toNat % 4 + 4
        front := !(sl.attr.getLsbD 5)
        isSprite0 := decide (i = 0) && spr0Cur }

/-- The sprite pixel at column `x` (48_ppu_pipeline.md R318). -/
def spritePixel (p : Ppu) (x : Nat) : SpritePixel :=
  if p.mask.getLsbD 4 && (decide (8 ≤ x) || p.mask.getLsbD 2) then firstOpaque p.spr0Cur 0 p.slots
  else { pix := 0, pal := 0, front := false, isSprite0 := false }

/-- The priority multiplexer (48_ppu_pipeline.md R319). -/
def selectPixel (bg : LayerPixel) (spr : SpritePixel) : LayerPixel :=
  if bg.pix = 0 then if spr.pix = 0 then { pix := 0, pal := 0 } else { pix := spr.pix, pal := spr.pal }
  else if spr.pix = 0 then bg
  else if spr.front then { pix := spr.pix, pal := spr.pal } else bg

/-- Whether this pixel is a sprite-0 hit (48_ppu_pipeline.md R320). -/
def sprite0Hits (p : Ppu) (bg : LayerPixel) (spr : SpritePixel) : Bool :=
  decide (bg.pix ≠ 0) && decide (spr.pix ≠ 0) && spr.isSprite0 && p.mask.getLsbD 3 && p.mask.getLsbD 4

/-- The palette address of a composited pixel (48_ppu_pipeline.md R321). -/
def paletteAddress (px : LayerPixel) : Word := BitVec.ofNat 16 (0x3F00 ||| (px.pal <<< 2) ||| px.pix)

/-- The index of pixel (x, y) in the pixel buffer (10_state.md R44). -/
def pixelIndex (x : Nat) (y : Int) : Nat := y.toNat * 256 + x

/-- The colour written for a composited pixel (48_ppu_pipeline.md R321). -/
def pixelColor (c : Config) (chrRam : Memory 8) (p : Ppu) (px : LayerPixel) : BitVec 32 :=
  c.colorLut.read (ppuRead c chrRam p (paletteAddress px)).toNat

/-- Compose and output the pixel of column `x` on scanline `s` (48_ppu_pipeline.md R317 to R322). -/
def outputPixel (c : Config) (chrRam : Memory 8) (s : Int) (x : Nat) (p : Ppu) : Ppu :=
  let bg := backgroundPixel p x
  let spr := spritePixel p x
  { p with
    spr0Hit := p.spr0Hit || sprite0Hits p bg spr
    framebuffer := p.framebuffer.write (pixelIndex x s) (pixelColor c chrRam p (selectPixel bg spr))
    frameComplete := p.frameComplete || (decide (x = 255) && decide (s = 239)) }

/-- Action 3 of the PPU step (48_ppu_pipeline.md R290). -/
def composePixel (c : Config) (chrRam : Memory 8) (s : Int) (cyc : Nat) (p : Ppu) : Ppu :=
  if inVisibleWindow s cyc then outputPixel c chrRam s (cyc - 1) p else p

end Sys2Proof.Machine
end

