-- ==== Sys2Proof/Machine/PpuStep.lean ====
section
/-! DEFINITION. `step_ppu`, one PPU cycle: its ten actions in order (48_ppu_pipeline.md R290). -/

namespace Sys2Proof.Machine

/-- Action 1: pre-render clear (48_ppu_pipeline.md R293). -/
def preRenderClear (s : Int) (cyc : Nat) (p : Ppu) : Ppu :=
  if s = -1 ∧ cyc = 1 then
    { p with
      vblank := false
      spr0Hit := false
      sprOverflow := false
      frameComplete := false
      slots := p.slots.map fun sl => { sl with lo := 0#8, hi := 0#8 } }
  else p

/-- Action 9: vblank entry and the NMI request (48_ppu_pipeline.md R325). -/
def vblankEntry (s : Int) (cyc : Nat) (p : Ppu) : Ppu :=
  if s = 241 ∧ cyc = 1 then { p with vblank := true, nmiPending := p.nmiPending || p.ctrl.getLsbD 7 } else p

/-- Action 10: the counters advance; cycle 0 of the pre-render line that opens an odd frame is skipped (48_ppu_pipeline.md R327). -/
def advanceCounters (p : Ppu) : Ppu :=
  if p.cycle + 1 ≤ 340 then { p with cycle := p.cycle + 1 }
  else if p.scanline + 1 ≤ 260 then { p with cycle := 0, scanline := p.scanline + 1 }
  else { p with cycle := if p.oddFrame then 0 else 1, scanline := -1, oddFrame := !p.oddFrame }

/-- `step_ppu` on the PPU's state, given the cartridge behind the PPU bus (48_ppu_pipeline.md R290). -/
def ppuCycle (c : Config) (chrRam : Memory 8) (p : Ppu) : Ppu :=
  let s := p.scanline
  let cyc := p.cycle
  let p1 := preRenderClear s cyc p
  let p2 := backgroundFetch c chrRam s cyc p1
  let p3 := composePixel c chrRam s cyc p2
  let p4 := shiftBackground s cyc p3
  let p5 := advanceSlots s cyc p4
  let p6 := updateAddress s cyc p5
  let p7 := evaluateSprites s cyc p6
  let p8 := fetchSprites c chrRam s cyc p7
  let p9 := vblankEntry s cyc p8
  advanceCounters p9

/-- `step_ppu` (48_ppu_pipeline.md R290): nothing but the PPU changes (R331). -/
def stepPpu (s : State) : State := { s with ppu := ppuCycle s.config s.chrRam s.ppu }

end Sys2Proof.Machine
end

