-- ==== Sys2Proof/Machine/Tick.lean ====
section
/-! DEFINITION. `step_cpu`, `SystemTick`, and the host's events between ticks (70_reset_and_hazards.md R390, R391, R395). -/

namespace Sys2Proof.Machine

/-- `f` applied to the next state of an outcome; a stop stays as it is. -/
def thenNext (r : Result) (f : State → State) : Result :=
  match r with
  | .next s => .next (f s)
  | .fault e => .fault e
  | .refused e => .refused e

/-- `debt <- debt - 1` (70_reset_and_hazards.md R390). -/
def payCycle (s : State) : State := setDebt s (s.cpu.debt - 1)

/-- `step_cpu()` (70_reset_and_hazards.md R390): an instruction when no cycle is owed, and one cycle paid. -/
def stepCpu (s : State) : Result :=
  if s.cpu.debt = 0 then
    let f := fetch s
    thenNext (exec (fetchedInstr f.bytes) f.state) payCycle
  else .next (payCycle s)

/-- A pending NMI is cleared and entered (70_reset_and_hazards.md R391, 60_exceptions.md R347). -/
def deliverNmi (s : State) : State :=
  if s.ppu.nmiPending then cpuNmi { s with ppu := { s.ppu with nmiPending := false } } else s

/-- The end of a tick: the clock counts, then the NMI is delivered (70_reset_and_hazards.md R391). -/
def endTick (s : State) : State := deliverNmi { s with sysclk := s.sysclk + 1 }

/-- `SystemTick()` (70_reset_and_hazards.md R391). -/
def systemTick (s : State) : Result := thenNext (stepCpu (stepPpu (stepPpu (stepPpu s)))) endTick

/-- One act of the host between ticks (70_reset_and_hazards.md R395, 60_exceptions.md R345, R346). -/
def hostAct (s : State) (e : HostEvent) : State :=
  match e with
  | .irq => cpuIrq s
  | .nmi => cpuNmi s
  | .reset => cpuReset s
  | .setButtons b => { s with buttons := b }

/-- The host's acts at this tick boundary, in the order it issues them (60_exceptions.md R352; log 7). -/
def hostBoundary (s : State) : State :=
  (s.hostScript.headD []).foldl hostAct { s with hostScript := s.hostScript.tail }

/-- One step of the model: the host's acts at the boundary, then one SystemTick (70_reset_and_hazards.md R392). -/
def boundaryAndTick (s : State) : Result := systemTick (hostBoundary s)

end Sys2Proof.Machine
end

