-- ==== Sys2Proof/Machine/Step.lean ====
section
/-! DEFINITION. The step of the machine, and the state in which the next step runs a given instruction. -/

namespace Sys2Proof.Machine

/-- One step: the host's acts at the tick boundary, then one SystemTick (70_reset_and_hazards.md R391, R392). -/
def step (s : State) : Host.Outcome State Fault Refusal := boundaryAndTick s

/-- `s` with the instruction whose bits are `w` stored where the next step fetches it, and that step set to fetch (log 4). -/
def State.withFetchWord (s : State) (nbits w : Nat) : State := placeInstruction (tableBytes nbits w) s

end Sys2Proof.Machine
end

