-- ==== Sys2Proof/Machine/Boot.lean ====
section
/-! DEFINITION. Construction of a machine, power-on, and the launch state (20_memory.md R95, 70_reset_and_hazards.md R380). -/

namespace Sys2Proof.Machine

/-- The cartridge as the host's loader hands it over: the mapper id is still a number (20_memory.md R95). -/
structure Cartridge where
  prgBanks : Nat
  chrBanks : Nat
  mapperId : Nat
  mirroring : Mirroring
  prg : Memory 8
  chrRom : Memory 8
  deriving DecidableEq, Repr

/-- The supported mapper ids (20_memory.md R73). -/
def supportedMapper (id : Nat) : Option MapperId :=
  match id with
  | 0 => some .mapper0
  | 1 => some .mapper1
  | _ => none

/-- The configuration `base` with the cartridge in it; none for an unsupported mapper id, and none when the result is
not well formed, so for no program bank (20_memory.md R95; log 9). -/
def constructConfig (base : Config) (k : Cartridge) : Option Config :=
  match supportedMapper k.mapperId with
  | none => none
  | some m =>
    let c := { base with
      prgBanks := k.prgBanks, chrBanks := k.chrBanks, mapper := m, mirroring := k.mirroring, prg := k.prg, chrRom := k.chrRom }
    if c.wellFormed then some c else none

/-- The memory contents the launch state leaves open (10_state.md R49). -/
structure LaunchMemory where
  ram : Memory 8
  unmapped : Memory 8
  prgRam : Memory 8
  chrRam : Memory 8
  oam : Memory 8
  soam : Memory 8
  nt : Memory 8
  pal : Memory 8
  framebuffer : Memory 32
  deriving DecidableEq, Repr

/-- The machine at power-on, before `cpu_reset`: every element at its power-on value (70_reset_and_hazards.md R380,
10_state.md R49), the memories as given. -/
def powerOn (c : Config) (m : LaunchMemory) : State where
  cpu := { a := 0#8, x := 0#8, y := 0#8, sp := 0#8, p := 0#8, pc := 0#16, debt := 0 }
  ppu := { Ppu.powerOn with oam := m.oam, soam := m.soam, nt := m.nt, pal := m.pal, framebuffer := m.framebuffer }
  config := c
  ram := m.ram
  unmapped := m.unmapped
  prgRam := m.prgRam
  chrRam := m.chrRam
  ctrlLatch := 0#8
  buttons := 0#8
  sysclk := 0
  draws := 0
  hostScript := []

/-- The launch state: power-on, then one `cpu_reset` (70_reset_and_hazards.md R380). -/
def launch (c : Config) (m : LaunchMemory) : State := cpuReset (powerOn c m)

/-- Launch memories with nothing listed. -/
def emptyMemory : LaunchMemory where
  ram := []
  unmapped := []
  prgRam := []
  chrRam := []
  oam := []
  soam := []
  nt := []
  pal := []
  framebuffer := []

end Sys2Proof.Machine
end

