-- ==== Sys2Proof/Safety.lean ====
section
/-! DEFINITION. The terms claims are made in: the machine's bytes and which of them an operation leaves alone, what a
flag computation leaves alone, and the invariant of the machine's data. -/

namespace Sys2Proof.Machine

/-- The byte-wide memories a step can write (10_state.md R32, R34, R35, R39, R43). The two ROM images are in `config`. -/
inductive Store where
  | ram
  | unmapped
  | prgRam
  | chrRam
  | oam
  | soam
  | nametables
  | palette
  deriving DecidableEq, Repr

/-- One store of a state. -/
def storeOf (s : State) (m : Store) : Memory 8 :=
  match m with
  | .ram => s.ram
  | .unmapped => s.unmapped
  | .prgRam => s.prgRam
  | .chrRam => s.chrRam
  | .oam => s.ppu.oam
  | .soam => s.ppu.soam
  | .nametables => s.ppu.nt
  | .palette => s.ppu.pal

/-- The model's read of one byte: entry `n` of store `m`. -/
def byteAt (s : State) (m : Store) (n : Nat) : Byte := (storeOf s m).read n

/-- Every byte of memory reads in `t` as it did in `s`. -/
def SameBytes (s t : State) : Prop := ∀ m n, byteAt t m n = byteAt s m n

/-- Entry `n` of store `m` reads `v` in `t`, and every other byte of memory reads as it did in `s`. -/
def OnlyByteChanged (s t : State) (m : Store) (n : Nat) (v : Byte) : Prop :=
  byteAt t m n = v ∧ ∀ m' n', ¬(m' = m ∧ n' = n) → byteAt t m' n' = byteAt s m' n'

/-- The byte of plain memory behind a CPU address: none for the PPU window, $4014, $4016 and program ROM
(20_memory.md R62, R63, R74, R76, R77). -/
def cpuCell (c : Config) (a : Word) : Option (Store × Nat) :=
  if a.toNat ≤ 0x1FFF then some (.ram, a.toNat % 2048)
  else if a.toNat ≤ 0x3FFF then none
  else if a = 0x4014#16 then none
  else if a = 0x4016#16 then none
  else if 0x8000 ≤ a.toNat then none
  else if c.mapper = .mapper1 ∧ 0x6000 ≤ a.toNat then some (.prgRam, a.toNat - 0x6000)
  else some (.unmapped, a.toNat)

/-- Two states that differ at most in the CPU's registers. -/
def SameOutsideCpu (s t : State) : Prop := t = { s with cpu := t.cpu }

/-- The flag bits listed agree in two flag bytes. -/
def SameFlags (bits : List Nat) (p q : Byte) : Prop := ∀ k ∈ bits, q.getLsbD k = p.getLsbD k

/-- `q` is `p` with Z and N set from `v`, every other bit as in `p` (10_state.md R27). -/
def ZNFrom (p q v : Byte) : Prop :=
  flagZ q = decide (v = 0#8) ∧ flagN q = v.getLsbD 7 ∧ SameFlags [0, 2, 3, 4, 5, 6] p q

/-- The byte a read of a CPU address in plain memory gives, program ROM included (20_memory.md R61, R63, R74, R76, R77). -/
def plainByte (s : State) (a : Word) : Byte :=
  if a.toNat ≤ 0x1FFF then byteAt s .ram (a.toNat % 2048)
  else if 0x8000 ≤ a.toNat then s.config.prg.read ((a.toNat - 0x8000) % (16384 * s.config.prgBanks))
  else if s.config.mapper = .mapper1 ∧ 0x6000 ≤ a.toNat then byteAt s .prgRam (a.toNat - 0x6000)
  else byteAt s .unmapped a.toNat

/-- A CPU address whose read has no side effect (20_memory.md R87): every address but the PPU window and $4016. -/
def PlainRead (a : Word) : Prop := a.toNat ≤ 0x1FFF ∨ (0x4000 ≤ a.toNat ∧ a ≠ 0x4016#16)

/-- Two PPU states that differ at most in what register accesses may change: `ctrl`, `mask`, the vblank flag, `oamaddr`,
OAM, `w`, `t`, `v`, fine X, the read buffer and PPU memory (47_ppu_registers.md R277). -/
def OnlyRegisterState (p q : Ppu) : Prop :=
  q = { p with
    ctrl := q.ctrl, mask := q.mask, vblank := q.vblank, oamaddr := q.oamaddr, oam := q.oam, w := q.w, t := q.t, v := q.v
    fineX := q.fineX, dataBuf := q.dataBuf, nt := q.nt, pal := q.pal }

/-- Two states that differ at most in what a bus read's side effects touch: the vblank flag, `w`, the read buffer, `v`,
the controller latch (20_memory.md R87), and the model's count of draws. -/
def OnlyReadEffects (s t : State) : Prop :=
  t = { s with
    ppu := { s.ppu with vblank := t.ppu.vblank, w := t.ppu.w, dataBuf := t.ppu.dataBuf, v := t.ppu.v }
    ctrlLatch := t.ctrlLatch, draws := t.draws }

/-- The undefined opcode bytes (30_encoding.md R116), in the order the rule lists them. -/
def undefinedOpcodes : List Byte :=
  [0x02#8, 0x03#8, 0x04#8, 0x07#8, 0x0B#8, 0x0C#8, 0x0F#8, 0x12#8, 0x13#8, 0x14#8, 0x17#8, 0x1A#8, 0x1B#8, 0x1C#8, 0x1F#8] ++
  [0x22#8, 0x23#8, 0x27#8, 0x2B#8, 0x2F#8, 0x32#8, 0x33#8, 0x34#8, 0x37#8, 0x3A#8, 0x3B#8, 0x3C#8, 0x3F#8] ++
  [0x42#8, 0x43#8, 0x44#8, 0x47#8, 0x4B#8, 0x4F#8, 0x52#8, 0x53#8, 0x54#8, 0x57#8, 0x5A#8, 0x5B#8, 0x5C#8, 0x5F#8] ++
  [0x62#8, 0x63#8, 0x64#8, 0x67#8, 0x6B#8, 0x6F#8, 0x72#8, 0x73#8, 0x74#8, 0x77#8, 0x7A#8, 0x7B#8, 0x7C#8, 0x7F#8] ++
  [0x80#8, 0x82#8, 0x83#8, 0x87#8, 0x89#8, 0x8B#8, 0x8F#8, 0x92#8, 0x93#8, 0x97#8, 0x9B#8, 0x9C#8, 0x9E#8, 0x9F#8] ++
  [0xA3#8, 0xA7#8, 0xAB#8, 0xAF#8, 0xB2#8, 0xB3#8, 0xB7#8, 0xBB#8, 0xBF#8] ++
  [0xC2#8, 0xC3#8, 0xC7#8, 0xCB#8, 0xCF#8, 0xD2#8, 0xD3#8, 0xD4#8, 0xD7#8, 0xDA#8, 0xDB#8, 0xDC#8, 0xDF#8] ++
  [0xE2#8, 0xE3#8, 0xE7#8, 0xEB#8, 0xEF#8, 0xF2#8, 0xF3#8, 0xF4#8, 0xF7#8, 0xFA#8, 0xFB#8, 0xFC#8, 0xFF#8]

/-- The invariant of the PPU's data: memories in canonical form and in bounds, eight slots, counters in range
(10_state.md R40, R42, R51), and the evaluation's registers as R308 and R309 of 48_ppu_pipeline.md describe them. -/
structure Ppu.Inv (p : Ppu) : Prop where
  oam : p.oam.wfIn 256 = true
  soam : p.soam.wfIn 32 = true
  nt : p.nt.wfIn 2048 = true
  pal : p.pal.wfIn 32 = true
  framebuffer : p.framebuffer.wfIn 61440 = true
  slots : p.slots.length = 8
  cycle : p.cycle ≤ 340
  scanlineLow : -1 ≤ p.scanline
  scanlineHigh : p.scanline ≤ 260
  found : p.evFound ≤ 8
  scan : p.evMode = .scan → p.evFound < 8 ∧ p.evM = 0#2
  copy : p.evMode = .copy → p.evFound < 8 ∧ p.evM ≠ 0#2

/-- The invariant of the machine's data. -/
structure State.Inv (s : State) : Prop where
  ppu : s.ppu.Inv
  ram : s.ram.wfIn 2048 = true
  unmapped : s.unmapped.wfIn 65536 = true
  prgRam : s.prgRam.wfIn 8192 = true
  chrRam : s.chrRam.wfIn 8192 = true

/-- The byte of memory behind a PPU bus address (20_memory.md R80 to R83): none for character ROM. -/
def ppuCell (c : Config) (addr : Word) : Option (Store × Nat) :=
  let a := addr.toNat % 16384
  if a ≤ 0x1FFF then if c.chrBanks = 0 then some (.chrRam, a) else none
  else if a ≤ 0x3EFF then
    match c.mirroring with
    | .vertical => some (.nametables, 1024 * (a / 1024 % 2) + a % 1024)
    | .horizontal => some (.nametables, 1024 * (a / 2048 % 2) + a % 1024)
  else if a % 32 = 16 ∨ a % 32 = 20 ∨ a % 32 = 24 ∨ a % 32 = 28 then some (.palette, a % 32 - 16)
  else some (.palette, a % 32)

/-- The state with `v` written at entry `n` of store `m`. -/
def putByte (s : State) (m : Store) (n : Nat) (v : Byte) : State :=
  match m with
  | .ram => { s with ram := s.ram.write n v }
  | .unmapped => { s with unmapped := s.unmapped.write n v }
  | .prgRam => { s with prgRam := s.prgRam.write n v }
  | .chrRam => { s with chrRam := s.chrRam.write n v }
  | .oam => { s with ppu := { s.ppu with oam := s.ppu.oam.write n v } }
  | .soam => { s with ppu := { s.ppu with soam := s.ppu.soam.write n v } }
  | .nametables => { s with ppu := { s.ppu with nt := s.ppu.nt.write n v } }
  | .palette => { s with ppu := { s.ppu with pal := s.ppu.pal.write n v } }

/-- Entry `n` of store `m` is among the bytes of memory that a bus write at `a` stores to: the byte `a` names; through
OAMDATA the OAM byte at `oamaddr`; through PPUDATA the byte behind `v`; for $4014 all of OAM (20_memory.md R62). -/
def WriteTouches (s : State) (a : Word) (m : Store) (n : Nat) : Prop :=
  if 0x2000 ≤ a.toNat ∧ a.toNat ≤ 0x3FFF then
    (a.toNat % 8 = 4 ∧ m = .oam ∧ n = s.ppu.oamaddr.toNat) ∨ (a.toNat % 8 = 7 ∧ ppuCell s.config s.ppu.v = some (m, n))
  else if a = 0x4014#16 then m = .oam ∧ n < 256
  else cpuCell s.config a = some (m, n)

/-- The cycles a bus write at `a` adds to the debt: OAM-DMA's at $4014, none elsewhere (20_memory.md R72). -/
def dmaStall (sysclk : Nat) (a : Word) : Nat := if a = 0x4014#16 then 513 + sysclk % 2 else 0

/-! ### How an instruction completes

In each of these `post` relates the CPU's registers before and after; what it leaves open is nothing but the debt, which
`cost` (70_reset_and_hazards.md R400) states. -/

/-- `i` completes, in a state of which `post` holds. -/
def Completes (i : Instr) (s : State) (post : State → Prop) : Prop := ∃ t, exec i s = .next t ∧ post t

/-- `i` completes and changes the CPU's registers alone. -/
def CompletesInCpu (i : Instr) (cost : Nat) (post : Cpu → Cpu → Prop) (s : State) : Prop :=
  Completes i s fun t =>
    SameOutsideCpu s t ∧ SameBytes s t ∧ t.cpu.debt = s.cpu.debt + cost ∧ post s.cpu t.cpu

/-- `i` completes with the byte its operand `o` reads: outside the CPU only that read's side effects are left, no byte
of memory changes, and a page cross costs one cycle more where `plusPage` says so. -/
def CompletesReading (i : Instr) (o : Operand) (cost : Nat) (plusPage : Bool) (post : Byte → Cpu → Cpu → Prop)
    (s : State) : Prop :=
  Completes i s fun t =>
    SameOutsideCpu (readOperand o s).state t ∧ OnlyReadEffects s (readOperand o s).state ∧ SameBytes s t ∧
      t.cpu.debt = s.cpu.debt + cost + (plusPage && (readOperand o s).cross).toNat ∧
        post (readOperand o s).value s.cpu t.cpu

/-- `i` completes by storing `v` at the address `m` gives: outside the CPU the state is what that one bus write leaves,
no register but the debt changes, every byte the write does not store to is kept, and a byte of plain memory holds `v`. -/
def CompletesStoring (i : Instr) (m : MemOperand) (v : Byte) (cost : Nat) (s : State) : Prop :=
  Completes i s fun t =>
    SameOutsideCpu (memWrite (address m s).state (address m s).ea v) t ∧
      t.cpu = { s.cpu with debt := s.cpu.debt + cost + dmaStall s.sysclk (address m s).ea } ∧
        (∀ k n, ¬WriteTouches (address m s).state (address m s).ea k n → byteAt t k n = byteAt s k n) ∧
          (s.Inv → ∀ k n, cpuCell s.config (address m s).ea = some (k, n) → byteAt t k n = v)

/-- `i` completes as one read and one write of the address `m` gives: `f` of the byte read and the carry is written, and
`flags` relates the flag byte before, the byte read, the result, and the flag byte after. -/
def CompletesModifying (i : Instr) (m : MemOperand) (f : Byte → Bool → Byte) (flags : Byte → Byte → Byte → Byte → Prop)
    (cost : Nat) (s : State) : Prop :=
  Completes i s fun t =>
    let e := address m s
    let r := memRead e.state e.ea
    let v := f r.value (flagC s.cpu.p)
    SameOutsideCpu (memWrite r.state e.ea v) t ∧ OnlyReadEffects s r.state ∧
      t.cpu = { s.cpu with p := t.cpu.p, debt := s.cpu.debt + cost + dmaStall s.sysclk e.ea } ∧
        flags s.cpu.p r.value v t.cpu.p ∧
          (∀ k n, ¬WriteTouches r.state e.ea k n → byteAt t k n = byteAt s k n) ∧
            (s.Inv → ∀ k n, cpuCell s.config e.ea = some (k, n) → byteAt t k n = v)

/-- The bytes pushed, the first at the stack pointer of `s` and each further one below it inside page $01, and no other
change outside the CPU (42_stack.md R170, 60_exceptions.md R344). -/
def OnlyPushed (s t : State) (pushed : List Byte) : Prop :=
  t = { s with cpu := t.cpu, ram := t.ram } ∧
    (∀ m n, ¬(m = .ram ∧ ∃ k < pushed.length, n = 256 + (s.cpu.sp - BitVec.ofNat 8 k).toNat) → byteAt t m n = byteAt s m n) ∧
      (s.Inv → ∀ k b, pushed[k]? = some b → byteAt t .ram (256 + (s.cpu.sp - BitVec.ofNat 8 k).toNat) = b)

/-- The `k`-th byte a series of pops takes off the stack of `s`, from 1 (42_stack.md R171). -/
def popped (s : State) (k : Nat) : Byte := byteAt s .ram (256 + (s.cpu.sp + BitVec.ofNat 8 k).toNat)

/-- The word of program ROM at a vector, low byte first (60_exceptions.md R341). -/
def vectorWord (s : State) (vec : Word) : Word := word (plainByte s (vec + 1#16)) (plainByte s vec)

/-- `A <- v; SetZN(A)`, and so for X and Y: no other register (10_state.md R27). -/
def LoadsA (v : Byte) (c d : Cpu) : Prop := d = { c with a := v, p := d.p, debt := d.debt } ∧ ZNFrom c.p d.p v
def LoadsX (v : Byte) (c d : Cpu) : Prop := d = { c with x := v, p := d.p, debt := d.debt } ∧ ZNFrom c.p d.p v
def LoadsY (v : Byte) (c d : Cpu) : Prop := d = { c with y := v, p := d.p, debt := d.debt } ∧ ZNFrom c.p d.p v

/-- Only P, and in P only bit `k`, which becomes `on` (10_state.md R26). -/
def SetsFlag (k : Nat) (on : Bool) (c d : Cpu) : Prop :=
  d = { c with p := d.p, debt := d.debt } ∧ d.p.getLsbD k = on ∧ SameFlags ((List.range 8).filter (· ≠ k)) c.p d.p

/-- `f` is the flag byte a push makes of `p`: U is 1, B is as given (60_exceptions.md R344). -/
def PushedFlags (p f : Byte) (b : Bool) : Prop :=
  f.getLsbD 5 = true ∧ f.getLsbD 4 = b ∧ SameFlags [0, 1, 2, 3, 6, 7] p f

/-- `q` is `p` with C as given and Z and N from `v`, every other bit as in `p`. -/
def CZNFrom (p q : Byte) (c : Bool) (v : Byte) : Prop :=
  flagC q = c ∧ flagZ q = decide (v = 0#8) ∧ flagN q = v.getLsbD 7 ∧ SameFlags [2, 3, 4, 5, 6] p q

/-- The sum of ADC and SBC: `m` is the operand, for SBC its one's complement (43_alu.md R180, R181). -/
def Sums (m : Byte) (c d : Cpu) : Prop :=
  let sum := c.a.toNat + m.toNat + (flagC c.p).toNat
  let r := BitVec.ofNat 8 sum
  d = { c with a := r, p := d.p, debt := d.debt } ∧ flagC d.p = decide (0xFF < sum) ∧
    flagV d.p = (c.a.getLsbD 7 == m.getLsbD 7 && r.getLsbD 7 != c.a.getLsbD 7) ∧
      flagZ d.p = decide (r = 0#8) ∧ flagN d.p = r.getLsbD 7 ∧ SameFlags [2, 3, 4, 5] c.p d.p

/-- `Compare(reg, m)` (43_alu.md R191): no register but P, and in P only C, Z and N. -/
def Compares (reg m : Byte) (c d : Cpu) : Prop :=
  d = { c with p := d.p, debt := d.debt } ∧ flagC d.p = decide (m.toNat ≤ reg.toNat) ∧ flagZ d.p = decide (reg = m) ∧
    flagN d.p = (reg - m).getLsbD 7 ∧ SameFlags [2, 3, 4, 5, 6] c.p d.p

/-- BIT on the operand `m` (43_alu.md R188): no register but P, and in P only Z, N and V. -/
def BitTests (m : Byte) (c d : Cpu) : Prop :=
  d = { c with p := d.p, debt := d.debt } ∧ flagZ d.p = decide (c.a &&& m = 0#8) ∧ flagN d.p = m.getLsbD 7 ∧
    flagV d.p = m.getLsbD 6 ∧ SameFlags [0, 2, 3, 4, 5] c.p d.p

/-- What the shifts and rotates make of a byte and the old carry (44_shift_incdec.md R200 to R203), as numbers. -/
def aslByte (v : Byte) (_ : Bool) : Byte := BitVec.ofNat 8 (2 * v.toNat)
def lsrByte (v : Byte) (_ : Bool) : Byte := BitVec.ofNat 8 (v.toNat / 2)
def rolByte (v : Byte) (c : Bool) : Byte := BitVec.ofNat 8 (2 * v.toNat + c.toNat)
def rorByte (v : Byte) (c : Bool) : Byte := BitVec.ofNat 8 (v.toNat / 2 + 128 * c.toNat)

/-- The flags of a left shift: C is the old bit 7. -/
def LeftFlags (p v r q : Byte) : Prop := CZNFrom p q (v.getLsbD 7) r

/-- The flags of a right shift: C is the old bit 0. -/
def RightFlags (p v r q : Byte) : Prop := CZNFrom p q (v.getLsbD 0) r

/-- The flags of INC and DEC: Z and N alone. -/
def StepFlags (p _v r q : Byte) : Prop := ZNFrom p q r

/-- The target of a branch: the address after it plus the signed offset, modulo 65536 (40_addressing_modes.md R143). -/
def relTarget (pc : Word) (off : Byte) : Word := BitVec.ofInt 16 ((pc.toNat : Int) + off.toInt)

/-- The cycles of a branch (45_control_flow.md R223). -/
def branchCycles (taken : Bool) (target pc : Word) : Nat :=
  if taken then if target.toNat / 256 = pc.toNat / 256 then 3 else 4 else 2

/-- Two states that differ at most in bits 5 and 4 of P (10_state.md R52). -/
def SameButUB (s t : State) : Prop :=
  t = { s with cpu := { s.cpu with p := t.cpu.p } } ∧ SameFlags [0, 1, 2, 3, 6, 7] s.cpu.p t.cpu.p

/-- Two outcomes that `SameButUB` relates: both next, or both the same fault. -/
def OutcomesSameButUB : Result → Result → Prop
  | .next s, .next t => SameButUB s t
  | .fault (.illegalOpcode a s), .fault (.illegalOpcode b t) => a = b ∧ SameButUB s t
  | _, _ => False

/-- The fields of a VRAM address (47_ppu_registers.md R267), with bit 15, which no rule reads. -/
structure VramFields where
  coarseX : Nat
  coarseY : Nat
  ntX : Nat
  ntY : Nat
  fineY : Nat
  bit15 : Nat
  deriving DecidableEq, Repr

/-- A VRAM address taken apart. -/
def vramFields (v : Word) : VramFields where
  coarseX := v.toNat % 32
  coarseY := v.toNat / 32 % 32
  ntX := v.toNat / 1024 % 2
  ntY := v.toNat / 2048 % 2
  fineY := v.toNat / 4096 % 8
  bit15 := v.toNat / 32768

/-- The evaluation's registers (10_state.md R41), and `spr0_next`. -/
structure EvalRegs where
  n : BitVec 6
  m : BitVec 2
  found : Nat
  mode : EvalMode
  latch : BitVec 8
  spr0Next : Bool
  deriving DecidableEq, Repr

/-- The evaluation's registers of a PPU. -/
def evalRegs (p : Ppu) : EvalRegs where
  n := p.evN
  m := p.evM
  found := p.evFound
  mode := p.evMode
  latch := p.evLatch
  spr0Next := p.spr0Next

/-- The four fetch latches of a PPU (10_state.md R38): nametable byte, attribute bits, pattern low, pattern high. -/
def fetchLatches (p : Ppu) : BitVec 8 × BitVec 2 × BitVec 8 × BitVec 8 := (p.ntLatch, p.atLatch, p.patLoLatch, p.patHiLatch)

/-- The four background shift registers of a PPU (10_state.md R38): pattern low and high, attribute low and high. -/
def shiftRegs (p : Ppu) : List (BitVec 16) := [p.bgPatLo, p.bgPatHi, p.bgAtLo, p.bgAtHi]

/-- Scanline `s`, cycle `c` lies in the background fetch window (48_ppu_pipeline.md R290, action 2). -/
abbrev FetchCycle (s : Int) (c : Nat) : Prop := s ≤ 239 ∧ (1 ≤ c ∧ c ≤ 256 ∨ 321 ≤ c ∧ c ≤ 336)

/-- Scanline `s`, cycle `c` outputs a pixel (48_ppu_pipeline.md R290, action 3). -/
abbrev PixelCycle (s : Int) (c : Nat) : Prop := 0 ≤ s ∧ s ≤ 239 ∧ 1 ≤ c ∧ c ≤ 256

/-- Scanline `s`, cycle `c` on which nothing happens but the counter advance (48_ppu_pipeline.md R291). -/
abbrev IdleCycle (s : Int) (c : Nat) : Prop := c = 0 ∨ 337 ≤ c ∨ s = 240 ∨ 242 ≤ s ∨ (s = 241 ∧ c ≠ 1)

/-- Whether `y` is in range on scanline `s` by the formula of 48_ppu_pipeline.md R311 (log 14: $EF on scanline 239). -/
abbrev InRange (s : Int) (tall : Bool) (y : Byte) : Prop :=
  0 ≤ s - (y.toNat : Int) ∧ s - (y.toNat : Int) < if tall then 16 else 8

/-- `n` PPU cycles. -/
def ppuSteps : Nat → State → State
  | 0, s => s
  | n + 1, s => ppuSteps n (stepPpu s)

end Sys2Proof.Machine
end

