-- ==== Sys2Proof/Certificates/Slice0/Obligations.lean ====
section
/-! DEFINITION. The statements for the provers, from the spec's numbered rules. -/

open Sys2Proof Sys2Proof.Machine

/-- R110, R111, R113 (30_encoding.md): an instruction is its opcode byte and its operand bytes, low byte first; no operand bit is lost. -/
def Obligations.DecodeEncodeRoundTrip : Prop :=
  ∀ (i : Instr) (rest : List Byte), decode (encode i ++ rest) = .ok (i, rest)

/-- R110 and R113 (30_encoding.md), the other direction: the bytes read are the encoding of the instruction read. -/
def Obligations.OnlyEncodingsDecode : Prop :=
  ∀ (bytes : List Byte) (i : Instr) (rest : List Byte), decode bytes = .ok (i, rest) → bytes = encode i ++ rest

/-- Rows of the opcode table R114 (30_encoding.md), with operand bytes assembled as R113 says; a check on a few words. -/
def Obligations.SampleWordsDecode : Prop :=
  decode [0xA9#8, 0x80#8] = .ok (.ldaImm 0x80#8, []) ∧ decode [0x8D#8, 0x00#8, 0x02#8] = .ok (.staAbs 0x0200#16, []) ∧
    decode [0xAA#8] = .ok (.tax, []) ∧ decode [0x48#8] = .ok (.pha, []) ∧
    decode [0x7D#8, 0xF0#8, 0x20#8] = .ok (.adcAbx 0x20F0#16, []) ∧ decode [0x31#8, 0x10#8] = .ok (.andIzy 0x10#8, []) ∧
    decode [0x0A#8] = .ok (.aslAcc, []) ∧ decode [0xF6#8, 0x10#8] = .ok (.incZpx 0x10#8, []) ∧
    decode [0x6C#8, 0xFF#8, 0x02#8] = .ok (.jmpInd 0x02FF#16, []) ∧ decode [0xF0#8, 0x10#8] = .ok (.beq 0x10#8, []) ∧
    decode [0x00#8] = .ok (.brk, []) ∧ decode [0x40#8] = .ok (.rti, []) ∧ decode [0x18#8] = .ok (.clc, []) ∧
    decode [0x02#8] = .ok (.illegal02, [])

/-- R118 and R110 (30_encoding.md): decoding is total, and the opcode byte alone selects the length. -/
def Obligations.DecodingIsTotal : Prop :=
  undefinedOpcodes.length = 105 ∧ undefinedOpcodes.Nodup ∧
    ∀ op : Byte, ∃ used ≤ 2, ∀ (b c : Byte) (rest : List Byte), ∃ i : Instr,
      decode (op :: b :: c :: rest) = .ok (i, (b :: c :: rest).drop used) ∧
        ((op ∈ undefinedOpcodes ∧ used = 0 ∧ ∀ s, exec i s = .fault (.illegalOpcode op s)) ∨
          (op ∉ undefinedOpcodes ∧ ∀ s, ∃ t, exec i s = .next t))

/-- R130 (40_addressing_modes.md) and R121 (30_encoding.md). -/
def Obligations.FetchReadsInstructionBytes : Prop :=
  ∀ s : State,
    (fetch8 s).value = (memRead s s.cpu.pc).value ∧
      (fetch8 s).state = { (memRead s s.cpu.pc).state with cpu := { s.cpu with pc := s.cpu.pc + 1#16 } } ∧
      (s.cpu.pc = 0xFFFF#16 → (fetch8 s).state.cpu.pc = 0x0000#16) ∧
      (let len := instrLength (fetch8 s).value
       let before := fun k : Nat => Nat.repeat (fun u => (fetch8 u).state) k s
       (fetch s).bytes = (List.range len).map (fun k => (fetch8 (before k)).value) ∧ (fetch s).state = before len) ∧
      (let len := instrLength (plainByte s s.cpu.pc)
       let addr := fun k : Nat => s.cpu.pc + BitVec.ofNat 16 k
       (∀ k < len, PlainRead (addr k)) →
        (fetch s).bytes = (List.range len).map (fun k => plainByte s (addr k)) ∧
          (fetch s).state = { s with cpu := { s.cpu with pc := addr len } }) ∧
      (s.cpu.pc = 0xFFFF#16 → instrLength (plainByte s 0xFFFF#16) = 3 →
        (fetch s).bytes = [plainByte s 0xFFFF#16, byteAt s .ram 0, byteAt s .ram 1])

/-- R390, R391 and R392 (70_reset_and_hazards.md): what a step adds around an instruction. -/
def Obligations.StepRunsDecodedInstruction : Prop :=
  ∀ (s : State) (i : Instr),
    let u := ppuSteps 3 (hostBoundary s)
    u.cpu.debt = 0 → decode (fetch u).bytes = .ok (i, []) →
      step s = match exec i (fetch u).state with
        | .next t => .next (endTick (setDebt t (t.cpu.debt - 1)))
        | .fault e => .fault e
        | .refused e => .refused e

/-- R248 (46_flags_nop_illegal.md): the 105 undefined opcode bytes raise IllegalOpcode. -/
def Obligations.UndefinedOpcodesFault : Prop :=
  ∀ s : State,
    exec .illegal02 s = .fault (.illegalOpcode 0x02#8 s) ∧
    exec .illegal03 s = .fault (.illegalOpcode 0x03#8 s) ∧
    exec .illegal04 s = .fault (.illegalOpcode 0x04#8 s) ∧
    exec .illegal07 s = .fault (.illegalOpcode 0x07#8 s) ∧
    exec .illegal0B s = .fault (.illegalOpcode 0x0B#8 s) ∧
    exec .illegal0C s = .fault (.illegalOpcode 0x0C#8 s) ∧
    exec .illegal0F s = .fault (.illegalOpcode 0x0F#8 s) ∧
    exec .illegal12 s = .fault (.illegalOpcode 0x12#8 s) ∧
    exec .illegal13 s = .fault (.illegalOpcode 0x13#8 s) ∧
    exec .illegal14 s = .fault (.illegalOpcode 0x14#8 s) ∧
    exec .illegal17 s = .fault (.illegalOpcode 0x17#8 s) ∧
    exec .illegal1A s = .fault (.illegalOpcode 0x1A#8 s) ∧
    exec .illegal1B s = .fault (.illegalOpcode 0x1B#8 s) ∧
    exec .illegal1C s = .fault (.illegalOpcode 0x1C#8 s) ∧
    exec .illegal1F s = .fault (.illegalOpcode 0x1F#8 s) ∧
    exec .illegal22 s = .fault (.illegalOpcode 0x22#8 s) ∧
    exec .illegal23 s = .fault (.illegalOpcode 0x23#8 s) ∧
    exec .illegal27 s = .fault (.illegalOpcode 0x27#8 s) ∧
    exec .illegal2B s = .fault (.illegalOpcode 0x2B#8 s) ∧
    exec .illegal2F s = .fault (.illegalOpcode 0x2F#8 s) ∧
    exec .illegal32 s = .fault (.illegalOpcode 0x32#8 s) ∧
    exec .illegal33 s = .fault (.illegalOpcode 0x33#8 s) ∧
    exec .illegal34 s = .fault (.illegalOpcode 0x34#8 s) ∧
    exec .illegal37 s = .fault (.illegalOpcode 0x37#8 s) ∧
    exec .illegal3A s = .fault (.illegalOpcode 0x3A#8 s) ∧
    exec .illegal3B s = .fault (.illegalOpcode 0x3B#8 s) ∧
    exec .illegal3C s = .fault (.illegalOpcode 0x3C#8 s) ∧
    exec .illegal3F s = .fault (.illegalOpcode 0x3F#8 s) ∧
    exec .illegal42 s = .fault (.illegalOpcode 0x42#8 s) ∧
    exec .illegal43 s = .fault (.illegalOpcode 0x43#8 s) ∧
    exec .illegal44 s = .fault (.illegalOpcode 0x44#8 s) ∧
    exec .illegal47 s = .fault (.illegalOpcode 0x47#8 s) ∧
    exec .illegal4B s = .fault (.illegalOpcode 0x4B#8 s) ∧
    exec .illegal4F s = .fault (.illegalOpcode 0x4F#8 s) ∧
    exec .illegal52 s = .fault (.illegalOpcode 0x52#8 s) ∧
    exec .illegal53 s = .fault (.illegalOpcode 0x53#8 s) ∧
    exec .illegal54 s = .fault (.illegalOpcode 0x54#8 s) ∧
    exec .illegal57 s = .fault (.illegalOpcode 0x57#8 s) ∧
    exec .illegal5A s = .fault (.illegalOpcode 0x5A#8 s) ∧
    exec .illegal5B s = .fault (.illegalOpcode 0x5B#8 s) ∧
    exec .illegal5C s = .fault (.illegalOpcode 0x5C#8 s) ∧
    exec .illegal5F s = .fault (.illegalOpcode 0x5F#8 s) ∧
    exec .illegal62 s = .fault (.illegalOpcode 0x62#8 s) ∧
    exec .illegal63 s = .fault (.illegalOpcode 0x63#8 s) ∧
    exec .illegal64 s = .fault (.illegalOpcode 0x64#8 s) ∧
    exec .illegal67 s = .fault (.illegalOpcode 0x67#8 s) ∧
    exec .illegal6B s = .fault (.illegalOpcode 0x6B#8 s) ∧
    exec .illegal6F s = .fault (.illegalOpcode 0x6F#8 s) ∧
    exec .illegal72 s = .fault (.illegalOpcode 0x72#8 s) ∧
    exec .illegal73 s = .fault (.illegalOpcode 0x73#8 s) ∧
    exec .illegal74 s = .fault (.illegalOpcode 0x74#8 s) ∧
    exec .illegal77 s = .fault (.illegalOpcode 0x77#8 s) ∧
    exec .illegal7A s = .fault (.illegalOpcode 0x7A#8 s) ∧
    exec .illegal7B s = .fault (.illegalOpcode 0x7B#8 s) ∧
    exec .illegal7C s = .fault (.illegalOpcode 0x7C#8 s) ∧
    exec .illegal7F s = .fault (.illegalOpcode 0x7F#8 s) ∧
    exec .illegal80 s = .fault (.illegalOpcode 0x80#8 s) ∧
    exec .illegal82 s = .fault (.illegalOpcode 0x82#8 s) ∧
    exec .illegal83 s = .fault (.illegalOpcode 0x83#8 s) ∧
    exec .illegal87 s = .fault (.illegalOpcode 0x87#8 s) ∧
    exec .illegal89 s = .fault (.illegalOpcode 0x89#8 s) ∧
    exec .illegal8B s = .fault (.illegalOpcode 0x8B#8 s) ∧
    exec .illegal8F s = .fault (.illegalOpcode 0x8F#8 s) ∧
    exec .illegal92 s = .fault (.illegalOpcode 0x92#8 s) ∧
    exec .illegal93 s = .fault (.illegalOpcode 0x93#8 s) ∧
    exec .illegal97 s = .fault (.illegalOpcode 0x97#8 s) ∧
    exec .illegal9B s = .fault (.illegalOpcode 0x9B#8 s) ∧
    exec .illegal9C s = .fault (.illegalOpcode 0x9C#8 s) ∧
    exec .illegal9E s = .fault (.illegalOpcode 0x9E#8 s) ∧
    exec .illegal9F s = .fault (.illegalOpcode 0x9F#8 s) ∧
    exec .illegalA3 s = .fault (.illegalOpcode 0xA3#8 s) ∧
    exec .illegalA7 s = .fault (.illegalOpcode 0xA7#8 s) ∧
    exec .illegalAB s = .fault (.illegalOpcode 0xAB#8 s) ∧
    exec .illegalAF s = .fault (.illegalOpcode 0xAF#8 s) ∧
    exec .illegalB2 s = .fault (.illegalOpcode 0xB2#8 s) ∧
    exec .illegalB3 s = .fault (.illegalOpcode 0xB3#8 s) ∧
    exec .illegalB7 s = .fault (.illegalOpcode 0xB7#8 s) ∧
    exec .illegalBB s = .fault (.illegalOpcode 0xBB#8 s) ∧
    exec .illegalBF s = .fault (.illegalOpcode 0xBF#8 s) ∧
    exec .illegalC2 s = .fault (.illegalOpcode 0xC2#8 s) ∧
    exec .illegalC3 s = .fault (.illegalOpcode 0xC3#8 s) ∧
    exec .illegalC7 s = .fault (.illegalOpcode 0xC7#8 s) ∧
    exec .illegalCB s = .fault (.illegalOpcode 0xCB#8 s) ∧
    exec .illegalCF s = .fault (.illegalOpcode 0xCF#8 s) ∧
    exec .illegalD2 s = .fault (.illegalOpcode 0xD2#8 s) ∧
    exec .illegalD3 s = .fault (.illegalOpcode 0xD3#8 s) ∧
    exec .illegalD4 s = .fault (.illegalOpcode 0xD4#8 s) ∧
    exec .illegalD7 s = .fault (.illegalOpcode 0xD7#8 s) ∧
    exec .illegalDA s = .fault (.illegalOpcode 0xDA#8 s) ∧
    exec .illegalDB s = .fault (.illegalOpcode 0xDB#8 s) ∧
    exec .illegalDC s = .fault (.illegalOpcode 0xDC#8 s) ∧
    exec .illegalDF s = .fault (.illegalOpcode 0xDF#8 s) ∧
    exec .illegalE2 s = .fault (.illegalOpcode 0xE2#8 s) ∧
    exec .illegalE3 s = .fault (.illegalOpcode 0xE3#8 s) ∧
    exec .illegalE7 s = .fault (.illegalOpcode 0xE7#8 s) ∧
    exec .illegalEB s = .fault (.illegalOpcode 0xEB#8 s) ∧
    exec .illegalEF s = .fault (.illegalOpcode 0xEF#8 s) ∧
    exec .illegalF2 s = .fault (.illegalOpcode 0xF2#8 s) ∧
    exec .illegalF3 s = .fault (.illegalOpcode 0xF3#8 s) ∧
    exec .illegalF4 s = .fault (.illegalOpcode 0xF4#8 s) ∧
    exec .illegalF7 s = .fault (.illegalOpcode 0xF7#8 s) ∧
    exec .illegalFA s = .fault (.illegalOpcode 0xFA#8 s) ∧
    exec .illegalFB s = .fault (.illegalOpcode 0xFB#8 s) ∧
    exec .illegalFC s = .fault (.illegalOpcode 0xFC#8 s) ∧
    exec .illegalFF s = .fault (.illegalOpcode 0xFF#8 s)

/-- R381 (70_reset_and_hazards.md) and R48 (10_state.md). -/
def Obligations.ResetOperation : Prop :=
  ∀ s : State, cpuReset s = { s with
    cpu := {
      a := 0#8, x := 0#8, y := 0#8, sp := 0xFD#8, p := 0x34#8, pc := vectorWord s 0xFFFC#16, debt := s.config.resetCycles } }

/-- R380 (70_reset_and_hazards.md) with the table of R49 (10_state.md). The live buttons, which the spec gives no value, are left out. -/
def Obligations.LaunchState : Prop :=
  (∀ (c : Config) (m : LaunchMemory),
    let t := launch c m
    let p := t.ppu
    t.cpu = {
        a := 0#8, x := 0#8, y := 0#8, sp := 0xFD#8, p := 0x34#8, pc := vectorWord t 0xFFFC#16, debt := c.resetCycles } ∧
      t.config = c ∧ t.ram = m.ram ∧ t.unmapped = m.unmapped ∧ t.prgRam = m.prgRam ∧ t.chrRam = m.chrRam ∧
      t.ctrlLatch = 0#8 ∧ t.sysclk = 0 ∧
      p.ctrl = 0#8 ∧ p.mask = 0#8 ∧ p.vblank = false ∧ p.spr0Hit = false ∧ p.sprOverflow = false ∧ p.oamaddr = 0#8 ∧
      p.w = false ∧ p.t = 0#16 ∧ p.v = 0#16 ∧ p.fineX = 0#3 ∧ p.dataBuf = 0#8 ∧
      fetchLatches p = (0#8, 0#2, 0#8, 0#8) ∧ shiftRegs p = [0#16, 0#16, 0#16, 0#16] ∧
      p.slots = List.replicate 8 { lo := 0#8, hi := 0#8, attr := 0#8, x := 0#8 } ∧
      evalRegs p = { n := 0#6, m := 0#2, found := 0, mode := .done, latch := 0#8, spr0Next := false } ∧
      p.spr0Cur = false ∧ p.cycle = 0 ∧ p.scanline = -1 ∧ p.oddFrame = false ∧ p.frameComplete = false ∧
      p.nmiPending = false ∧
      p.oam = m.oam ∧ p.soam = m.soam ∧ p.nt = m.nt ∧ p.pal = m.pal ∧ p.framebuffer = m.framebuffer) ∧
  State.reset.cpu = {
      a := 0#8, x := 0#8, y := 0#8, sp := 0xFD#8, p := 0x34#8, pc := vectorWord State.reset 0xFFFC#16
      debt := State.reset.config.resetCycles }

/-- R95 (20_memory.md); that the images must fit the geometry is the model's own (log 9). -/
def Obligations.ConstructionRefusesBadCartridges : Prop :=
  ∀ (base : Config) (k : Cartridge),
    (2 ≤ k.mapperId → constructConfig base k = none) ∧ (k.prgBanks = 0 → constructConfig base k = none) ∧
      (k.mapperId < 2 → 1 ≤ k.prgBanks → k.prg.wfIn (16384 * k.prgBanks) = true → k.chrRom.wfIn (8192 * k.chrBanks) = true →
        base.colorLut.wfIn 64 = true → ∃ c, constructConfig base k = some c ∧
          c.prgBanks = k.prgBanks ∧ c.chrBanks = k.chrBanks ∧ c.mirroring = k.mirroring ∧ c.prg = k.prg ∧
          c.chrRom = k.chrRom ∧ (c.mapper = .mapper1 ↔ k.mapperId = 1) ∧ c.resetCycles = base.resetCycles ∧
          c.ctrlTop3 = base.ctrlTop3 ∧ c.fineOrder = base.fineOrder ∧ c.colorLut = base.colorLut)

/-- R63 and R64 (20_memory.md). -/
def Obligations.BusMirroring : Prop :=
  ∀ (s : State) (a : Word) (v : Byte),
    (a.toNat ≤ 0x1FFF →
      memRead s a = { value := byteAt s .ram (a.toNat % 2048), state := s } ∧
        memRead s a = memRead s (a &&& 0x07FF#16) ∧
        memWrite s a v = putByte s .ram (a.toNat % 2048) v ∧ memWrite s a v = memWrite s (a &&& 0x07FF#16) v) ∧
      (0x2000 ≤ a.toNat → a.toNat ≤ 0x3FFF →
        memRead s a = memRead s (0x2000#16 + (a &&& 7#16)) ∧ memWrite s a v = memWrite s (0x2000#16 + (a &&& 7#16)) v)

/-- R74, R76, R77 and R78 (20_memory.md). -/
def Obligations.CartridgeOnTheCpuBus : Prop :=
  ∀ (s : State) (a : Word) (v : Byte),
    (0x8000 ≤ a.toNat →
      memRead s a = { value := s.config.prg.read ((a.toNat - 0x8000) % (16384 * s.config.prgBanks)), state := s } ∧
        memWrite s a v = s) ∧
      (s.config.prgBanks = 1 → 0x8000 ≤ a.toNat → a.toNat < 0xC000 → memRead s (a + 0x4000#16) = memRead s a) ∧
      (s.config.prgBanks = 2 → 0x8000 ≤ a.toNat → (memRead s a).value = s.config.prg.read (a.toNat - 0x8000)) ∧
      (s.config.mapper = .mapper1 → 0x6000 ≤ a.toNat → a.toNat ≤ 0x7FFF →
        memRead s a = { value := byteAt s .prgRam (a.toNat - 0x6000), state := s } ∧
          memWrite s a v = putByte s .prgRam (a.toNat - 0x6000) v) ∧
      (0x4000 ≤ a.toNat → a.toNat ≤ 0x7FFF → (s.config.mapper = .mapper1 → a.toNat < 0x6000) → a ≠ 0x4016#16 →
        memRead s a = { value := byteAt s .unmapped a.toNat, state := s } ∧
          (a ≠ 0x4014#16 → memWrite s a v = putByte s .unmapped a.toNat v)) ∧
      (a.toNat ≤ 0x1FFF → s.config.chrBanks ≠ 0 → ppuWrite s a v = s)

/-- R87 (20_memory.md). The count of draws (log 5) is the model's own and left open here. -/
def Obligations.BusSideEffects : Prop :=
  ∀ (s : State) (a : Word),
    (a.toNat ≤ 0x1FFF ∨ (0x4000 ≤ a.toNat ∧ a ≠ 0x4016#16) →
      (memRead s a).state = s ∧ memRead (memRead s a).state a = memRead s a) ∧
      (0x2000 ≤ a.toNat → a.toNat ≤ 0x3FFF →
        (a.toNat % 8 = 2 →
          ∃ d, (memRead s a).state = { s with ppu := { s.ppu with vblank := false, w := false }, draws := d }) ∧
          (a.toNat % 8 = 4 → (memRead s a).state = s) ∧
          (a.toNat % 8 = 7 → ∃ b, (memRead s a).state = { s with
            ppu := { s.ppu with dataBuf := b, v := s.ppu.v + if s.ppu.ctrl.getLsbD 2 then 32#16 else 1#16 } }) ∧
          (a.toNat % 8 ∈ [0, 1, 3, 5, 6] → ∃ d, (memRead s a).state = { s with draws := d })) ∧
      (∃ l, (memRead s 0x4016#16).state = { s with ctrlLatch := l }) ∧
      (¬(0x2000 ≤ a.toNat ∧ a.toNat ≤ 0x3FFF) → a ≠ 0x4014#16 → a ≠ 0x4016#16 → ∀ v,
        memWrite s a v = match cpuCell s.config a with
          | some (m, n) => putByte s m n v
          | none => s)

/-- R66 and R67 (20_memory.md). -/
def Obligations.ControllerPort : Prop :=
  ∀ (s : State) (v : Byte),
    (memRead s 0x4016#16).value.toNat = 32 * s.config.ctrlTop3.toNat + (s.ctrlLatch.getLsbD 0).toNat ∧
      (∃ l : Byte, (memRead s 0x4016#16).state = { s with ctrlLatch := l } ∧
        ∀ k < 8, l.getLsbD k = s.ctrlLatch.getLsbD ((k + 7) % 8)) ∧
      memWrite s 0x4016#16 v = (if v.getLsbD 0 then { s with ctrlLatch := s.buttons } else s) ∧
      ∀ n, (memRead (Nat.repeat (fun u => (memRead u 0x4016#16).state) n s) 0x4016#16).value.getLsbD 0 =
        s.ctrlLatch.getLsbD ((8 - n % 8) % 8)

/-- R72 (20_memory.md). The states `u i` are those between the 256 transfers. -/
def Obligations.OamDmaCopiesAPage : Prop :=
  ∀ (s : State) (page : Byte),
    let t := memWrite s 0x4014#16 page
    let cpu := { s.cpu with debt := s.cpu.debt + 513 + s.sysclk % 2 }
    (∃ u : Nat → State, u 0 = s ∧ t = { u 256 with cpu := cpu } ∧ ∀ i < 256,
      let r := memRead (u i) (word page (BitVec.ofNat 8 i))
      u (i + 1) = putByte r.state .oam ((s.ppu.oamaddr.toNat + i) % 256) r.value) ∧
      t.ppu.oamaddr = s.ppu.oamaddr ∧
      (page.toNat ≤ 0x1F ∨ 0x41 ≤ page.toNat →
        t = { s with cpu := cpu, ppu := { s.ppu with oam := t.ppu.oam } } ∧
          (s.Inv → ∀ i < 256,
            byteAt t .oam ((s.ppu.oamaddr.toNat + i) % 256) = plainByte s (word page (BitVec.ofNat 8 i))))

/-- R82 (20_memory.md). -/
def Obligations.NametableMirroring : Prop :=
  ∀ (c : Config) (chr : Memory 8) (p : Ppu) (a : Word), 0x2000 ≤ a.toNat → a.toNat ≤ 0x3EFF →
    (c.mirroring = .vertical → ppuRead c chr p a = p.nt.read (1024 * (a.getLsbD 10).toNat + a.toNat % 1024)) ∧
      (c.mirroring = .horizontal → ppuRead c chr p a = p.nt.read (1024 * (a.getLsbD 11).toNat + a.toNat % 1024)) ∧
      (a.toNat ≤ 0x2FFF → c.mirroring = .vertical → ppuRead c chr p (a ^^^ 0x0800#16) = ppuRead c chr p a) ∧
      (a.toNat ≤ 0x2FFF → c.mirroring = .horizontal → ppuRead c chr p (a ^^^ 0x0400#16) = ppuRead c chr p a) ∧
      (0x3000 ≤ a.toNat → ppuRead c chr p a = ppuRead c chr p (a - 0x1000#16))

/-- R80, R81 and R83 (20_memory.md). -/
def Obligations.PpuBusAccess : Prop :=
  ∀ (s : State) (a : Word) (d : Byte),
    (ppuRead s.config s.chrRam s.ppu a = match ppuCell s.config a with
      | some (.palette, n) => byteAt s .palette n &&& if s.ppu.mask.getLsbD 0 then 0x30#8 else 0x3F#8
      | some (m, n) => byteAt s m n
      | none => s.config.chrRom.read (a.toNat % 16384)) ∧
      (ppuWrite s a d = match ppuCell s.config a with
        | some (m, n) => putByte s m n d
        | none => s) ∧
      (∀ k < 4, ∀ e, ppuWrite s (BitVec.ofNat 16 (0x3F10 + 4 * k)) e = ppuWrite s (BitVec.ofNat 16 (0x3F00 + 4 * k)) e)

/-- R262, R264, R266, R268, R269 and R276 (47_ppu_registers.md). -/
def Obligations.PlainRegisterAccesses : Prop :=
  ∀ (s : State) (d : Byte),
    (∃ t, memWrite s 0x2000#16 d = { s with ppu := { s.ppu with ctrl := d, t := t } } ∧
      vramFields t = { vramFields s.ppu.t with ntX := d.toNat % 2, ntY := d.toNat / 2 % 2 }) ∧
      memWrite s 0x2001#16 d = { s with ppu := { s.ppu with mask := d } } ∧
      memWrite s 0x2002#16 d = s ∧
      memWrite s 0x2003#16 d = { s with ppu := { s.ppu with oamaddr := d } } ∧
      memRead s 0x2004#16 = { value := byteAt s .oam s.ppu.oamaddr.toNat, state := s } ∧
      memWrite s 0x2004#16 d =
        (let u := putByte s .oam s.ppu.oamaddr.toNat d
         { u with ppu := { u.ppu with oamaddr := BitVec.ofNat 8 (s.ppu.oamaddr.toNat + 1) } })

/-- R265 and R275 (47_ppu_registers.md). Nothing is said of the free bits; the count of draws (log 5) is left open. -/
def Obligations.StatusAndWriteOnlyReads : Prop :=
  ∀ s : State,
    ((memRead s 0x2002#16).value.getLsbD 7 = s.ppu.vblank ∧ (memRead s 0x2002#16).value.getLsbD 6 = s.ppu.spr0Hit ∧
      (memRead s 0x2002#16).value.getLsbD 5 = s.ppu.sprOverflow) ∧
      (∃ d, (memRead s 0x2002#16).state = { s with ppu := { s.ppu with vblank := false, w := false }, draws := d }) ∧
      (∀ h l : Byte, (memWrite (memWrite (memRead s 0x2002#16).state 0x2006#16 h) 0x2006#16 l).ppu.v = word (h &&& 0x3F#8) l) ∧
      (∀ r ∈ [0x2000#16, 0x2001#16, 0x2003#16, 0x2005#16, 0x2006#16], ∃ d, (memRead s r).state = { s with draws := d })

/-- R270 and R271 (47_ppu_registers.md). -/
def Obligations.ScrollAndAddressWrites : Prop :=
  ∀ (s : State) (d : Byte),
    let f := vramFields s.ppu.t
    let coarse := d.toNat / 8
    let fine := d.toNat % 8
    (s.ppu.w = false → s.config.fineOrder = .asDocument →
      ∃ t, memWrite s 0x2005#16 d = { s with ppu := { s.ppu with t := t, w := true } } ∧
        vramFields t = { f with coarseX := coarse, fineY := fine }) ∧
      (s.ppu.w = true → s.config.fineOrder = .asDocument →
        ∃ t x, memWrite s 0x2005#16 d = { s with ppu := { s.ppu with t := t, fineX := x, w := false } } ∧
          vramFields t = { f with coarseY := coarse } ∧ x.toNat = fine) ∧
      (s.ppu.w = false → s.config.fineOrder = .as2c02 →
        ∃ t x, memWrite s 0x2005#16 d = { s with ppu := { s.ppu with t := t, fineX := x, w := true } } ∧
          vramFields t = { f with coarseX := coarse } ∧ x.toNat = fine) ∧
      (s.ppu.w = true → s.config.fineOrder = .as2c02 →
        ∃ t, memWrite s 0x2005#16 d = { s with ppu := { s.ppu with t := t, w := false } } ∧
          vramFields t = { f with coarseY := coarse, fineY := fine }) ∧
      (s.ppu.w = false → ∃ t, memWrite s 0x2006#16 d = { s with ppu := { s.ppu with t := t, w := true } } ∧
        t.toNat = 256 * (d.toNat % 64) + s.ppu.t.toNat % 256) ∧
      (s.ppu.w = true → ∃ t, memWrite s 0x2006#16 d = { s with ppu := { s.ppu with t := t, v := t, w := false } } ∧
        t.toNat = 256 * (s.ppu.t.toNat / 256) + d.toNat)

/-- R272 and R273 (47_ppu_registers.md). -/
def Obligations.PpuDataAccess : Prop :=
  ∀ (s : State) (d : Byte),
    let byte := ppuRead s.config s.chrRam s.ppu s.ppu.v
    let next : Word := s.ppu.v + if s.ppu.ctrl.getLsbD 2 then 32#16 else 1#16
    memRead s 0x2007#16 = {
        value := if s.ppu.v.toNat % 16384 ≤ 0x3EFF then s.ppu.dataBuf else byte
        state := { s with ppu := { s.ppu with dataBuf := byte, v := next } } } ∧
      memWrite s 0x2007#16 d =
        (let u := match ppuCell s.config s.ppu.v with
          | some (m, n) => putByte s m n d
          | none => s
         { u with ppu := { u.ppu with v := next } })

/-- R277 (47_ppu_registers.md). -/
def Obligations.RegisterAccessKeepsThePipeline : Prop :=
  ∀ (s : State) (a : Word) (v : Byte), ∀ q ∈ [(memRead s a).state.ppu, (memWrite s a v).ppu],
    q.cycle = s.ppu.cycle ∧ q.scanline = s.ppu.scanline ∧ q.oddFrame = s.ppu.oddFrame ∧
      shiftRegs q = shiftRegs s.ppu ∧ fetchLatches q = fetchLatches s.ppu ∧ q.slots = s.ppu.slots ∧
      q.spr0Cur = s.ppu.spr0Cur ∧ q.soam = s.ppu.soam ∧ evalRegs q = evalRegs s.ppu ∧ q.spr0Hit = s.ppu.spr0Hit ∧
      q.sprOverflow = s.ppu.sprOverflow ∧ q.nmiPending = s.ppu.nmiPending ∧ q.frameComplete = s.ppu.frameComplete ∧
      q.framebuffer = s.ppu.framebuffer

/-- R331 and R290 (48_ppu_pipeline.md), in part: of the PPUSTATUS flags and `v`, which a cycle can change, nothing is said, and that no CPU bus read happens is said as the absence of its side effects. -/
def Obligations.PpuStepStaysInThePpu : Prop :=
  ∀ s : State,
    let p := s.ppu
    let q := (stepPpu s).ppu
    stepPpu s = { s with ppu := q } ∧ q.ctrl = p.ctrl ∧ q.mask = p.mask ∧ q.oamaddr = p.oamaddr ∧ q.w = p.w ∧ q.t = p.t ∧
      q.fineX = p.fineX ∧ q.dataBuf = p.dataBuf ∧ q.oam = p.oam ∧ q.nt = p.nt ∧ q.pal = p.pal

/-- R327 and R291 (48_ppu_pipeline.md). -/
def Obligations.CountersAndIdleCycles : Prop :=
  ∀ s : State,
    let p := s.ppu
    let q := (stepPpu s).ppu
    (q.cycle, q.scanline, q.oddFrame) =
        (if p.cycle < 340 then (p.cycle + 1, p.scanline, p.oddFrame)
         else if p.scanline < 260 then (0, p.scanline + 1, p.oddFrame)
         else (if p.oddFrame then 0 else 1, -1, !p.oddFrame)) ∧
      (IdleCycle p.scanline p.cycle →
        stepPpu s = { s with ppu := { p with cycle := q.cycle, scanline := q.scanline, oddFrame := q.oddFrame } })

/-- R293 and R325 (48_ppu_pipeline.md). -/
def Obligations.VblankAndPreRenderFlags : Prop :=
  ∀ s : State,
    let p := s.ppu
    let q := (stepPpu s).ppu
    (p.scanline = -1 ∧ p.cycle = 1 →
      q.vblank = false ∧ q.spr0Hit = false ∧ q.sprOverflow = false ∧ q.frameComplete = false ∧
        q.slots = p.slots.map (fun sl => { sl with lo := 0#8, hi := 0#8 }) ∧ q.soam = p.soam) ∧
      (p.scanline = 241 ∧ p.cycle = 1 → q.vblank = true ∧ q.nmiPending = (p.nmiPending || p.ctrl.getLsbD 7)) ∧
      (¬(p.scanline = 241 ∧ p.cycle = 1) → q.nmiPending = p.nmiPending) ∧
      (¬(p.scanline = 241 ∧ p.cycle = 1) → ¬(p.scanline = -1 ∧ p.cycle = 1) → q.vblank = p.vblank)

/-- R329 (48_ppu_pipeline.md). -/
def Obligations.RenderingDisabledCycle : Prop :=
  ∀ s : State, s.ppu.mask.getLsbD 3 = false → s.ppu.mask.getLsbD 4 = false →
    let p := s.ppu
    let q := (stepPpu s).ppu
    q.v = p.v ∧ q.soam = p.soam ∧ evalRegs q = evalRegs p ∧ q.spr0Cur = p.spr0Cur ∧
      (¬(p.scanline = -1 ∧ p.cycle = 1) → q.slots = p.slots ∧ q.spr0Hit = p.spr0Hit ∧ q.sprOverflow = p.sprOverflow) ∧
      (PixelCycle p.scanline p.cycle →
        q.framebuffer = p.framebuffer.write (256 * p.scanline.toNat + (p.cycle - 1))
          (s.config.colorLut.read (p.pal.read 0 &&& if p.mask.getLsbD 0 then 0x30#8 else 0x3F#8).toNat)) ∧
      (¬PixelCycle p.scanline p.cycle → q.framebuffer = p.framebuffer)

/-- R294 to R299 and the shift of R301 (48_ppu_pipeline.md). -/
def Obligations.BackgroundFetchAndShift : Prop :=
  ∀ s : State,
    let p := s.ppu
    let q := (stepPpu s).ppu
    let k := (p.cycle - 1) % 8
    let read := fun a => ppuRead s.config s.chrRam p a
    let row : Word := BitVec.ofNat 16 ((p.ctrl.getLsbD 4).toNat * 4096 + p.ntLatch.toNat * 16 + p.v.toNat / 4096 % 8)
    let low := fun (r : Word) (b : Byte) => word (hi r) b
    (FetchCycle p.scanline p.cycle →
      fetchLatches q =
          (if k = 0 then read (0x2000#16 ||| (p.v &&& 0x0FFF#16)) else p.ntLatch,
            if k = 2 then
              (read (0x23C0#16 ||| (p.v &&& 0x0C00#16) ||| ((p.v >>> 4) &&& 0x38#16) ||| ((p.v >>> 2) &&& 0x07#16)) >>>
                (((p.v >>> 4) &&& 0x04#16) ||| (p.v &&& 0x02#16)).toNat).setWidth 2
            else p.atLatch,
            if k = 4 then read row else p.patLoLatch, if k = 6 then read (row ||| 8#16) else p.patHiLatch) ∧
        shiftRegs q =
          (if k = 0 then
              [low p.bgPatLo p.patLoLatch, low p.bgPatHi p.patHiLatch,
                low p.bgAtLo (if p.atLatch.getLsbD 0 then 0xFF#8 else 0x00#8),
                low p.bgAtHi (if p.atLatch.getLsbD 1 then 0xFF#8 else 0x00#8)]
            else shiftRegs p).map (fun r : Word => if p.mask.getLsbD 3 then r <<< 1 else r)) ∧
      (¬FetchCycle p.scanline p.cycle → fetchLatches q = fetchLatches p ∧ shiftRegs q = shiftRegs p)

/-- R300 and R302 to R304 (48_ppu_pipeline.md), on the fields of R267. -/
def Obligations.VramAddressStepping : Prop :=
  ∀ s : State,
    let p := s.ppu
    let q := (stepPpu s).ppu
    let rendering : Bool := p.mask.getLsbD 3 || p.mask.getLsbD 4
    let f0 := vramFields p.v
    let tf := vramFields p.t
    let f1 :=
      if FetchCycle p.scanline p.cycle ∧ (p.cycle - 1) % 8 = 7 ∧ rendering = true then
        if f0.coarseX = 31 then { f0 with coarseX := 0, ntX := 1 - f0.ntX } else { f0 with coarseX := f0.coarseX + 1 }
      else f0
    vramFields q.v =
      if p.scanline ≤ 239 ∧ rendering = true then
        if p.cycle = 256 then
          if f1.fineY < 7 then { f1 with fineY := f1.fineY + 1 }
          else if f1.coarseY = 29 then { f1 with fineY := 0, coarseY := 0, ntY := 1 - f1.ntY }
          else if f1.coarseY = 31 then { f1 with fineY := 0, coarseY := 0 }
          else { f1 with fineY := 0, coarseY := f1.coarseY + 1 }
        else if p.cycle = 257 then { f1 with coarseX := tf.coarseX, ntX := tf.ntX }
        else if p.scanline = -1 ∧ 280 ≤ p.cycle ∧ p.cycle ≤ 304 then
          { f1 with coarseY := tf.coarseY, ntY := tf.ntY, fineY := tf.fineY }
        else f1
      else f1

/-- R305 to R307 (48_ppu_pipeline.md); that the overflow flag is kept elsewhere, from R293 and R310, the two rules that change it. -/
def Obligations.EvaluationClearAndReads : Prop :=
  ∀ s : State,
    let p := s.ppu
    let q := (stepPpu s).ppu
    let c := p.cycle
    let rendering : Bool := p.mask.getLsbD 3 || p.mask.getLsbD 4
    (PixelCycle p.scanline c → rendering = true →
      (c ≤ 64 → evalRegs q = evalRegs p ∧ q.soam = if c % 2 = 0 then p.soam.write (c / 2 - 1) 0xFF#8 else p.soam) ∧
        (c = 65 → q.soam = p.soam ∧ evalRegs q =
          { n := 0#6, m := 0#2, found := 0, mode := .scan, latch := p.oam.read 0, spr0Next := false }) ∧
        (65 < c → c % 2 = 1 → p.evMode ≠ .done → q.soam = p.soam ∧
          evalRegs q = { evalRegs p with latch := p.oam.read (4 * p.evN.toNat + p.evM.toNat) }) ∧
        (65 < c → p.evMode = .done → q.soam = p.soam ∧ evalRegs q = evalRegs p ∧ q.sprOverflow = p.sprOverflow)) ∧
      (¬(PixelCycle p.scanline c ∧ rendering = true) → q.soam = p.soam ∧ evalRegs q = evalRegs p) ∧
      (¬(p.scanline = -1 ∧ c = 1) →
        ¬(PixelCycle p.scanline c ∧ rendering = true ∧ 66 ≤ c ∧ c % 2 = 0 ∧ p.evMode = .ovfScan) →
          q.sprOverflow = p.sprOverflow)

/-- R308 to R311 (48_ppu_pipeline.md). In range is as the formula of R311 says; at Y $EF on scanline 239 that is the model's choice (log 14). -/
def Obligations.EvaluationModes : Prop :=
  ∀ s : State,
    let p := s.ppu
    let q := (stepPpu s).ppu
    let e := evalRegs p
    let n := p.evN + 1#6
    PixelCycle p.scanline p.cycle → 66 ≤ p.cycle → p.cycle % 2 = 0 → (p.mask.getLsbD 3 || p.mask.getLsbD 4) = true →
      (p.evMode = .scan →
        q.soam = p.soam.write (4 * p.evFound) p.evLatch ∧ q.sprOverflow = p.sprOverflow ∧
          evalRegs q =
            if InRange p.scanline (p.ctrl.getLsbD 5) p.evLatch then
              { e with m := 1#2, mode := .copy, spr0Next := p.spr0Next || decide (p.evN = 0#6) }
            else { e with n := n, mode := if n = 0#6 then .done else .scan }) ∧
        (p.evMode = .copy →
          q.soam = p.soam.write (4 * p.evFound + p.evM.toNat) p.evLatch ∧ q.sprOverflow = p.sprOverflow ∧
            evalRegs q =
              if p.evM = 3#2 then
                { e with
                  n := n, m := 0#2, found := p.evFound + 1
                  mode := if n = 0#6 then .done else if p.evFound + 1 = 8 then .ovfScan else .scan }
              else { e with m := p.evM + 1#2 }) ∧
        (p.evMode = .ovfScan →
          q.soam = p.soam ∧
            (if InRange p.scanline (p.ctrl.getLsbD 5) p.evLatch then
              q.sprOverflow = true ∧ evalRegs q = { e with mode := .done }
            else
              q.sprOverflow = p.sprOverflow ∧
                evalRegs q = { e with n := n, m := p.evM + 1#2, mode := if n = 0#6 then .done else .ovfScan }))

/-- R313 to R316 (48_ppu_pipeline.md). Of a used slot whose row is negative the byte loaded is left open (log 6). -/
def Obligations.SpriteFetchAndAdvance : Prop :=
  ∀ s : State,
    let p := s.ppu
    let q := (stepPpu s).ppu
    let rendering : Bool := p.mask.getLsbD 3 || p.mask.getLsbD 4
    let fetching := 0 ≤ p.scanline ∧ p.scanline ≤ 239 ∧ 257 ≤ p.cycle ∧ p.cycle ≤ 320 ∧ rendering = true
    let i := (p.cycle - 257) / 8
    let j := (p.cycle - 257) % 8
    let y := p.soam.read (4 * i)
    let tile := p.soam.read (4 * i + 1)
    let attr := p.soam.read (4 * i + 2)
    let height : Int := if p.ctrl.getLsbD 5 then 16 else 8
    let row : Int := if attr.getLsbD 7 then height - 1 - (p.scanline - (y.toNat : Int)) else p.scanline - (y.toNat : Int)
    let address : Word := BitVec.ofNat 16 (
      if p.ctrl.getLsbD 5 then
        ((tile &&& 1#8).toNat <<< 12) ||| (((tile &&& 0xFE#8).toNat + (row.toNat >>> 3)) <<< 4) ||| (row.toNat &&& 7)
      else ((p.ctrl.getLsbD 3).toNat <<< 12) ||| (tile.toNat <<< 4) ||| row.toNat)
    let pattern := fun a =>
      let b := ppuRead s.config s.chrRam p a
      if attr.getLsbD 6 then b.reverse else b
    (fetching →
      q.spr0Cur = (if p.cycle = 257 then p.spr0Next else p.spr0Cur) ∧
        (j = 0 → q.slots = p.slots.modify i (fun sl => { sl with attr := attr, x := p.soam.read (4 * i + 3) })) ∧
        (j = 4 → i < p.evFound → 0 ≤ row → q.slots = p.slots.modify i (fun sl => { sl with lo := pattern address })) ∧
        (j = 6 → i < p.evFound → 0 ≤ row →
          q.slots = p.slots.modify i (fun sl => { sl with hi := pattern (address ||| 8#16) })) ∧
        (j = 4 → i < p.evFound → row < 0 → ∃ b, q.slots = p.slots.modify i (fun sl => { sl with lo := b })) ∧
        (j = 6 → i < p.evFound → row < 0 → ∃ b, q.slots = p.slots.modify i (fun sl => { sl with hi := b })) ∧
        (j = 4 → ¬i < p.evFound → q.slots = p.slots.modify i (fun sl => { sl with lo := 0#8 })) ∧
        (j = 6 → ¬i < p.evFound → q.slots = p.slots.modify i (fun sl => { sl with hi := 0#8 })) ∧
        (j ∈ [1, 2, 3, 5, 7] → q.slots = p.slots)) ∧
      (PixelCycle p.scanline p.cycle → rendering = true →
        q.slots = p.slots.map (fun sl =>
          if 0 < sl.x.toNat then { sl with x := sl.x - 1#8 } else { sl with lo := sl.lo <<< 1, hi := sl.hi <<< 1 })) ∧
      (¬fetching → ¬(PixelCycle p.scanline p.cycle ∧ rendering = true) → ¬(p.scanline = -1 ∧ p.cycle = 1) → q.slots = p.slots) ∧
      (¬fetching → q.spr0Cur = p.spr0Cur)

/-- R317 to R320 (48_ppu_pipeline.md). The pixel is composed from the registers as the fetch action of the same cycle leaves them. -/
def Obligations.PixelLayersAndSprite0Hit : Prop :=
  (∀ (p : Ppu) (x : Nat),
    let b := 15 - p.fineX.toNat
    let opaque8 := fun sl : SpriteSlot => sl.x = 0#8 ∧ (sl.hi.getLsbD 7 = true ∨ sl.lo.getLsbD 7 = true)
    let spritesShown := p.mask.getLsbD 4 = true ∧ (8 ≤ x ∨ p.mask.getLsbD 2 = true)
    let nothing : SpritePixel := { pix := 0, pal := 0, front := false, isSprite0 := false }
    (p.mask.getLsbD 3 = true ∧ (8 ≤ x ∨ p.mask.getLsbD 1 = true) → backgroundPixel p x =
      { pix := 2 * (p.bgPatHi.getLsbD b).toNat + (p.bgPatLo.getLsbD b).toNat
        pal := 2 * (p.bgAtHi.getLsbD b).toNat + (p.bgAtLo.getLsbD b).toNat }) ∧
      (¬(p.mask.getLsbD 3 = true ∧ (8 ≤ x ∨ p.mask.getLsbD 1 = true)) → backgroundPixel p x = { pix := 0, pal := 0 }) ∧
      (spritesShown → ∀ i sl, p.slots[i]? = some sl → opaque8 sl →
        (∀ j < i, ∀ other, p.slots[j]? = some other → ¬opaque8 other) → spritePixel p x =
          { pix := 2 * (sl.hi.getLsbD 7).toNat + (sl.lo.getLsbD 7).toNat, pal := sl.attr.toNat % 4 + 4
            front := !sl.attr.getLsbD 5, isSprite0 := decide (i = 0) && p.spr0Cur }) ∧
      (spritesShown → (∀ sl ∈ p.slots, ¬opaque8 sl) → spritePixel p x = nothing) ∧
      (¬spritesShown → spritePixel p x = nothing)) ∧
  (∀ (bg : LayerPixel) (spr : SpritePixel), selectPixel bg spr =
    if bg.pix = 0 ∧ spr.pix = 0 then { pix := 0, pal := 0 }
    else if bg.pix = 0 then { pix := spr.pix, pal := spr.pal }
    else if spr.pix = 0 then bg
    else if spr.front then { pix := spr.pix, pal := spr.pal } else bg) ∧
  (∀ s : State,
    let p := s.ppu
    let q := (stepPpu s).ppu
    let x := p.cycle - 1
    let f := backgroundFetch s.config s.chrRam p.scanline p.cycle p
    (PixelCycle p.scanline p.cycle →
      (q.spr0Hit = true ↔ p.spr0Hit = true ∨
        ((backgroundPixel f x).pix ≠ 0 ∧ (spritePixel f x).pix ≠ 0 ∧ (spritePixel f x).isSprite0 = true ∧
          p.mask.getLsbD 3 = true ∧ p.mask.getLsbD 4 = true))) ∧
      (PixelCycle p.scanline p.cycle → x < 8 → (p.mask.getLsbD 1 = false ∨ p.mask.getLsbD 2 = false) →
        q.spr0Hit = p.spr0Hit) ∧
      (¬PixelCycle p.scanline p.cycle → ¬(p.scanline = -1 ∧ p.cycle = 1) → q.spr0Hit = p.spr0Hit))

/-- R321 and R322 (48_ppu_pipeline.md). -/
def Obligations.ColourOutputAndFrameCompletion : Prop :=
  ∀ s : State,
    let p := s.ppu
    let q := (stepPpu s).ppu
    let f := backgroundFetch s.config s.chrRam p.scanline p.cycle p
    let px := selectPixel (backgroundPixel f (p.cycle - 1)) (spritePixel f (p.cycle - 1))
    let idx := (p.pal.read (4 * px.pal + px.pix) &&& if p.mask.getLsbD 0 then 0x30#8 else 0x3F#8).toNat
    (PixelCycle p.scanline p.cycle →
      idx < 64 ∧
        q.framebuffer = p.framebuffer.write (256 * p.scanline.toNat + (p.cycle - 1)) (s.config.colorLut.read idx)) ∧
      (¬PixelCycle p.scanline p.cycle → q.framebuffer = p.framebuffer) ∧
      (¬(p.scanline = -1 ∧ p.cycle = 1) →
        q.frameComplete = (p.frameComplete || (decide (p.scanline = 239) && decide (p.cycle = 256)))) ∧
      (p.scanline = -1 ∧ p.cycle = 1 → q.frameComplete = false)

/-- R328 (48_ppu_pipeline.md). -/
def Obligations.FrameLength : Prop :=
  ∀ s : State, s.ppu.scanline = -1 → s.ppu.cycle = (if s.ppu.oddFrame then 1 else 0) →
    let n := if s.ppu.oddFrame then 89341 else 89342
    (ppuSteps n s).ppu.scanline = -1 ∧ (ppuSteps n s).ppu.cycle = (if s.ppu.oddFrame then 0 else 1) ∧
      (ppuSteps n s).ppu.oddFrame = !s.ppu.oddFrame ∧ ∀ k < n, (ppuSteps k s).ppu.oddFrame = s.ppu.oddFrame

/-- R330 (48_ppu_pipeline.md): the document's own property of the PPU. -/
def Obligations.BlankFrame : Prop :=
  ∀ s : State, s.Inv → s.ppu.scanline = -1 → s.ppu.cycle = 0 → s.ppu.oddFrame = false → s.ppu.mask = 0#8 → s.ppu.ctrl = 0#8 →
    s.ppu.nmiPending = false →
      let q := (ppuSteps 89342 s).ppu
      (∀ x < 256, ∀ y < 240,
        q.framebuffer.read (256 * y + x) = s.config.colorLut.read (s.ppu.pal.read 0 &&& 0x3F#8).toNat) ∧
        q.frameComplete = true ∧ q.vblank = true ∧ q.nmiPending = false ∧ q.scanline = -1 ∧ q.cycle = 1 ∧ q.oddFrame = true

/-- R134 to R142 (40_addressing_modes.md). Reading an operand is `operand()` of R11 (00_scope.md), with R132 and R133; that the operand bytes are those the fetch has delivered is the model's choice (log 4). -/
def Obligations.AddressingModes : Prop :=
  ∀ (s : State) (z : Byte) (w : Word),
    let pointer := fun n : Nat => word (byteAt s .ram ((n + 1) % 256)) (byteAt s .ram (n % 256))
    let at8 := fun (m : MemOperand) (n : Nat) =>
      (address m s).ea.toNat = n % 256 ∧ (address m s).cross = false ∧ (address m s).state = s
    let at16 := fun (m : MemOperand) (base : Word) (index : Byte) =>
      (address m s).ea.toNat = (base.toNat + index.toNat) % 65536 ∧
        (address m s).cross = decide ((base.toNat + index.toNat) % 65536 / 256 ≠ base.toNat / 256) ∧ (address m s).state = s
    at8 (.zp z) z.toNat ∧ at8 (.zpx z) (z.toNat + s.cpu.x.toNat) ∧ at8 (.zpy z) (z.toNat + s.cpu.y.toNat) ∧
      address (.abs w) s = { ea := w, cross := false, state := s } ∧
      (∃ w' : Word, w'.toNat = 256 * (w.toNat / 256) + (w.toNat + 1) % 256 ∧
        let l := memRead s w
        let h := memRead l.state w'
        address (.ind w) s = { ea := word h.value l.value, cross := false, state := h.state }) ∧
      address (.izx z) s = { ea := pointer (z.toNat + s.cpu.x.toNat), cross := false, state := s } ∧
      at16 (.izy z) (pointer z.toNat) s.cpu.y ∧ at16 (.abx w) w s.cpu.x ∧ at16 (.aby w) w s.cpu.y ∧
      (∀ m : MemOperand,
        let e := address m s
        let r := memRead e.state e.ea
        readOperand (.mem m) s = { value := r.value, cross := e.cross, state := r.state }) ∧
      (∀ b : Byte, readOperand (.imm b) s = { value := b, cross := false, state := s }) ∧
      readOperand .acc s = { value := s.cpu.a, cross := false, state := s }

/-- R150, R151 and R152 (41_load_store_transfer.md), with the cycles of R400. -/
def Obligations.LoadsSetTheRegister : Prop :=
  ∀ (s : State) (v z : Byte) (w : Word),
    CompletesReading (.ldaIzx z) (.mem (.izx z)) 6 false LoadsA s ∧
    CompletesReading (.ldaZp z) (.mem (.zp z)) 3 false LoadsA s ∧
    CompletesReading (.ldaImm v) (.imm v) 2 false LoadsA s ∧
    CompletesReading (.ldaAbs w) (.mem (.abs w)) 4 false LoadsA s ∧
    CompletesReading (.ldaIzy z) (.mem (.izy z)) 5 true LoadsA s ∧
    CompletesReading (.ldaZpx z) (.mem (.zpx z)) 4 false LoadsA s ∧
    CompletesReading (.ldaAby w) (.mem (.aby w)) 4 true LoadsA s ∧
    CompletesReading (.ldaAbx w) (.mem (.abx w)) 4 true LoadsA s ∧
    CompletesReading (.ldxImm v) (.imm v) 2 false LoadsX s ∧
    CompletesReading (.ldxZp z) (.mem (.zp z)) 3 false LoadsX s ∧
    CompletesReading (.ldxAbs w) (.mem (.abs w)) 4 false LoadsX s ∧
    CompletesReading (.ldxZpy z) (.mem (.zpy z)) 4 false LoadsX s ∧
    CompletesReading (.ldxAby w) (.mem (.aby w)) 4 true LoadsX s ∧
    CompletesReading (.ldyImm v) (.imm v) 2 false LoadsY s ∧
    CompletesReading (.ldyZp z) (.mem (.zp z)) 3 false LoadsY s ∧
    CompletesReading (.ldyAbs w) (.mem (.abs w)) 4 false LoadsY s ∧
    CompletesReading (.ldyZpx z) (.mem (.zpx z)) 4 false LoadsY s ∧
    CompletesReading (.ldyAbx w) (.mem (.abx w)) 4 true LoadsY s

/-- R153, R154 and R155 (41_load_store_transfer.md), with the cycles of R400; what the bus write does at a device address is in the statements about the bus. -/
def Obligations.StoresWriteTheRegister : Prop :=
  ∀ (s : State) (z : Byte) (w : Word),
    CompletesStoring (.staIzx z) (.izx z) s.cpu.a 6 s ∧
    CompletesStoring (.staZp z) (.zp z) s.cpu.a 3 s ∧
    CompletesStoring (.staAbs w) (.abs w) s.cpu.a 4 s ∧
    CompletesStoring (.staIzy z) (.izy z) s.cpu.a 6 s ∧
    CompletesStoring (.staZpx z) (.zpx z) s.cpu.a 4 s ∧
    CompletesStoring (.staAby w) (.aby w) s.cpu.a 5 s ∧
    CompletesStoring (.staAbx w) (.abx w) s.cpu.a 5 s ∧
    CompletesStoring (.stxZp z) (.zp z) s.cpu.x 3 s ∧
    CompletesStoring (.stxAbs w) (.abs w) s.cpu.x 4 s ∧
    CompletesStoring (.stxZpy z) (.zpy z) s.cpu.x 4 s ∧
    CompletesStoring (.styZp z) (.zp z) s.cpu.y 3 s ∧
    CompletesStoring (.styAbs w) (.abs w) s.cpu.y 4 s ∧
    CompletesStoring (.styZpx z) (.zpx z) s.cpu.y 4 s

/-- R156 to R161 (41_load_store_transfer.md). -/
def Obligations.TransfersCopyTheRegister : Prop :=
  ∀ s : State,
    CompletesInCpu .tax 2 (fun c d => LoadsX c.a c d) s ∧ CompletesInCpu .tay 2 (fun c d => LoadsY c.a c d) s ∧
      CompletesInCpu .txa 2 (fun c d => LoadsA c.x c d) s ∧ CompletesInCpu .tya 2 (fun c d => LoadsA c.y c d) s ∧
      CompletesInCpu .tsx 2 (fun c d => LoadsX c.sp c d) s ∧
      CompletesInCpu .txs 2 (fun c d => d = { c with sp := c.x, debt := d.debt }) s

/-- R170, R172 and R173 (42_stack.md). -/
def Obligations.PushesWriteTheStack : Prop :=
  ∀ s : State,
    Completes .pha s (fun t =>
      OnlyPushed s t [s.cpu.a] ∧ t.cpu = { s.cpu with sp := s.cpu.sp - 1#8, debt := s.cpu.debt + 3 }) ∧
      Completes .php s (fun t => ∃ f, PushedFlags s.cpu.p f true ∧
        OnlyPushed s t [f] ∧ t.cpu = { s.cpu with sp := s.cpu.sp - 1#8, debt := s.cpu.debt + 3 })

/-- R171, R174 and R175 (42_stack.md). -/
def Obligations.PullsReadTheStack : Prop :=
  ∀ s : State,
    CompletesInCpu .pla 4 (fun c d =>
      d = { c with a := popped s 1, sp := c.sp + 1#8, p := d.p, debt := d.debt } ∧ ZNFrom c.p d.p (popped s 1)) s ∧
      CompletesInCpu .plp 4 (fun c d =>
        d = { c with sp := c.sp + 1#8, p := d.p, debt := d.debt } ∧ SameFlags [0, 1, 2, 3, 6, 7] (popped s 1) d.p ∧
          SameFlags [4, 5] c.p d.p) s

/-- R180 and R181 (43_alu.md), with the cycles of R400; D has no part in them (R190). -/
def Obligations.AddAndSubtract : Prop :=
  ∀ (s : State) (v z : Byte) (w : Word),
    CompletesReading (.adcIzx z) (.mem (.izx z)) 6 false Sums s ∧
    CompletesReading (.adcZp z) (.mem (.zp z)) 3 false Sums s ∧
    CompletesReading (.adcImm v) (.imm v) 2 false Sums s ∧
    CompletesReading (.adcAbs w) (.mem (.abs w)) 4 false Sums s ∧
    CompletesReading (.adcIzy z) (.mem (.izy z)) 5 true Sums s ∧
    CompletesReading (.adcZpx z) (.mem (.zpx z)) 4 false Sums s ∧
    CompletesReading (.adcAby w) (.mem (.aby w)) 4 true Sums s ∧
    CompletesReading (.adcAbx w) (.mem (.abx w)) 4 true Sums s ∧
    CompletesReading (.sbcIzx z) (.mem (.izx z)) 6 false (fun m => Sums (m ^^^ 0xFF#8)) s ∧
    CompletesReading (.sbcZp z) (.mem (.zp z)) 3 false (fun m => Sums (m ^^^ 0xFF#8)) s ∧
    CompletesReading (.sbcImm v) (.imm v) 2 false (fun m => Sums (m ^^^ 0xFF#8)) s ∧
    CompletesReading (.sbcAbs w) (.mem (.abs w)) 4 false (fun m => Sums (m ^^^ 0xFF#8)) s ∧
    CompletesReading (.sbcIzy z) (.mem (.izy z)) 5 true (fun m => Sums (m ^^^ 0xFF#8)) s ∧
    CompletesReading (.sbcZpx z) (.mem (.zpx z)) 4 false (fun m => Sums (m ^^^ 0xFF#8)) s ∧
    CompletesReading (.sbcAby w) (.mem (.aby w)) 4 true (fun m => Sums (m ^^^ 0xFF#8)) s ∧
    CompletesReading (.sbcAbx w) (.mem (.abx w)) 4 true (fun m => Sums (m ^^^ 0xFF#8)) s

/-- R189 (43_alu.md): what the carry and overflow flags of R180 and R181 mean as numbers, in every form. -/
def Obligations.SignedOverflowAndBorrow : Prop :=
  ∀ (s : State) (v z : Byte) (w : Word),
    let overflows := fun n : Int => n < -128 ∨ 127 < n
    let adds := fun (m : Byte) (c d : Cpu) =>
      let sum : Int := c.a.toInt + m.toInt + (flagC c.p).toNat
      (flagV d.p = true ↔ overflows sum) ∧ (flagV d.p = false → d.a.toInt = sum)
    let subtracts := fun (m : Byte) (c d : Cpu) =>
      let borrow : Int := 1 - (flagC c.p).toNat
      let difference : Int := (c.a.toNat : Int) - (m.toNat : Int) - borrow
      let signed : Int := c.a.toInt - m.toInt - borrow
      (d.a.toNat : Int) = difference % 256 ∧ (flagC d.p = true ↔ 0 ≤ difference) ∧ (flagV d.p = true ↔ overflows signed) ∧
        (flagV d.p = false → d.a.toInt = signed)
    CompletesReading (.adcIzx z) (.mem (.izx z)) 6 false adds s ∧
    CompletesReading (.adcZp z) (.mem (.zp z)) 3 false adds s ∧
    CompletesReading (.adcImm v) (.imm v) 2 false adds s ∧
    CompletesReading (.adcAbs w) (.mem (.abs w)) 4 false adds s ∧
    CompletesReading (.adcIzy z) (.mem (.izy z)) 5 true adds s ∧
    CompletesReading (.adcZpx z) (.mem (.zpx z)) 4 false adds s ∧
    CompletesReading (.adcAby w) (.mem (.aby w)) 4 true adds s ∧
    CompletesReading (.adcAbx w) (.mem (.abx w)) 4 true adds s ∧
    CompletesReading (.sbcIzx z) (.mem (.izx z)) 6 false subtracts s ∧
    CompletesReading (.sbcZp z) (.mem (.zp z)) 3 false subtracts s ∧
    CompletesReading (.sbcImm v) (.imm v) 2 false subtracts s ∧
    CompletesReading (.sbcAbs w) (.mem (.abs w)) 4 false subtracts s ∧
    CompletesReading (.sbcIzy z) (.mem (.izy z)) 5 true subtracts s ∧
    CompletesReading (.sbcZpx z) (.mem (.zpx z)) 4 false subtracts s ∧
    CompletesReading (.sbcAby w) (.mem (.aby w)) 4 true subtracts s ∧
    CompletesReading (.sbcAbx w) (.mem (.abx w)) 4 true subtracts s

/-- R182, R183, R184 and R188 (43_alu.md), with the cycles of R400. -/
def Obligations.LogicAndBitTest : Prop :=
  ∀ (s : State) (v z : Byte) (w : Word),
    CompletesReading (.andIzx z) (.mem (.izx z)) 6 false (fun m c => LoadsA (c.a &&& m) c) s ∧
    CompletesReading (.andZp z) (.mem (.zp z)) 3 false (fun m c => LoadsA (c.a &&& m) c) s ∧
    CompletesReading (.andImm v) (.imm v) 2 false (fun m c => LoadsA (c.a &&& m) c) s ∧
    CompletesReading (.andAbs w) (.mem (.abs w)) 4 false (fun m c => LoadsA (c.a &&& m) c) s ∧
    CompletesReading (.andIzy z) (.mem (.izy z)) 5 true (fun m c => LoadsA (c.a &&& m) c) s ∧
    CompletesReading (.andZpx z) (.mem (.zpx z)) 4 false (fun m c => LoadsA (c.a &&& m) c) s ∧
    CompletesReading (.andAby w) (.mem (.aby w)) 4 true (fun m c => LoadsA (c.a &&& m) c) s ∧
    CompletesReading (.andAbx w) (.mem (.abx w)) 4 true (fun m c => LoadsA (c.a &&& m) c) s ∧
    CompletesReading (.oraIzx z) (.mem (.izx z)) 6 false (fun m c => LoadsA (c.a ||| m) c) s ∧
    CompletesReading (.oraZp z) (.mem (.zp z)) 3 false (fun m c => LoadsA (c.a ||| m) c) s ∧
    CompletesReading (.oraImm v) (.imm v) 2 false (fun m c => LoadsA (c.a ||| m) c) s ∧
    CompletesReading (.oraAbs w) (.mem (.abs w)) 4 false (fun m c => LoadsA (c.a ||| m) c) s ∧
    CompletesReading (.oraIzy z) (.mem (.izy z)) 5 true (fun m c => LoadsA (c.a ||| m) c) s ∧
    CompletesReading (.oraZpx z) (.mem (.zpx z)) 4 false (fun m c => LoadsA (c.a ||| m) c) s ∧
    CompletesReading (.oraAby w) (.mem (.aby w)) 4 true (fun m c => LoadsA (c.a ||| m) c) s ∧
    CompletesReading (.oraAbx w) (.mem (.abx w)) 4 true (fun m c => LoadsA (c.a ||| m) c) s ∧
    CompletesReading (.eorIzx z) (.mem (.izx z)) 6 false (fun m c => LoadsA (c.a ^^^ m) c) s ∧
    CompletesReading (.eorZp z) (.mem (.zp z)) 3 false (fun m c => LoadsA (c.a ^^^ m) c) s ∧
    CompletesReading (.eorImm v) (.imm v) 2 false (fun m c => LoadsA (c.a ^^^ m) c) s ∧
    CompletesReading (.eorAbs w) (.mem (.abs w)) 4 false (fun m c => LoadsA (c.a ^^^ m) c) s ∧
    CompletesReading (.eorIzy z) (.mem (.izy z)) 5 true (fun m c => LoadsA (c.a ^^^ m) c) s ∧
    CompletesReading (.eorZpx z) (.mem (.zpx z)) 4 false (fun m c => LoadsA (c.a ^^^ m) c) s ∧
    CompletesReading (.eorAby w) (.mem (.aby w)) 4 true (fun m c => LoadsA (c.a ^^^ m) c) s ∧
    CompletesReading (.eorAbx w) (.mem (.abx w)) 4 true (fun m c => LoadsA (c.a ^^^ m) c) s ∧
    CompletesReading (.bitZp z) (.mem (.zp z)) 3 false BitTests s ∧
    CompletesReading (.bitAbs w) (.mem (.abs w)) 4 false BitTests s

/-- R185, R186, R187 and R191 (43_alu.md), with the cycles of R400. -/
def Obligations.CompareRegisters : Prop :=
  ∀ (s : State) (v z : Byte) (w : Word),
    CompletesReading (.cmpIzx z) (.mem (.izx z)) 6 false (fun m c => Compares c.a m c) s ∧
    CompletesReading (.cmpZp z) (.mem (.zp z)) 3 false (fun m c => Compares c.a m c) s ∧
    CompletesReading (.cmpImm v) (.imm v) 2 false (fun m c => Compares c.a m c) s ∧
    CompletesReading (.cmpAbs w) (.mem (.abs w)) 4 false (fun m c => Compares c.a m c) s ∧
    CompletesReading (.cmpIzy z) (.mem (.izy z)) 5 true (fun m c => Compares c.a m c) s ∧
    CompletesReading (.cmpZpx z) (.mem (.zpx z)) 4 false (fun m c => Compares c.a m c) s ∧
    CompletesReading (.cmpAby w) (.mem (.aby w)) 4 true (fun m c => Compares c.a m c) s ∧
    CompletesReading (.cmpAbx w) (.mem (.abx w)) 4 true (fun m c => Compares c.a m c) s ∧
    CompletesReading (.cpxImm v) (.imm v) 2 false (fun m c => Compares c.x m c) s ∧
    CompletesReading (.cpxZp z) (.mem (.zp z)) 3 false (fun m c => Compares c.x m c) s ∧
    CompletesReading (.cpxAbs w) (.mem (.abs w)) 4 false (fun m c => Compares c.x m c) s ∧
    CompletesReading (.cpyImm v) (.imm v) 2 false (fun m c => Compares c.y m c) s ∧
    CompletesReading (.cpyZp z) (.mem (.zp z)) 3 false (fun m c => Compares c.y m c) s ∧
    CompletesReading (.cpyAbs w) (.mem (.abs w)) 4 false (fun m c => Compares c.y m c) s

/-- R200 to R203 and R210 (44_shift_incdec.md), with the cycles of R400. -/
def Obligations.ShiftsAndRotates : Prop :=
  ∀ (s : State) (z : Byte) (w : Word),
    CompletesModifying (.aslZp z) (.zp z) aslByte LeftFlags 5 s ∧
    CompletesInCpu .aslAcc 2 (fun c d =>
      d = { c with a := aslByte c.a (flagC c.p), p := d.p, debt := d.debt } ∧
        LeftFlags c.p c.a (aslByte c.a (flagC c.p)) d.p) s ∧
    CompletesModifying (.aslAbs w) (.abs w) aslByte LeftFlags 6 s ∧
    CompletesModifying (.aslZpx z) (.zpx z) aslByte LeftFlags 6 s ∧
    CompletesModifying (.aslAbx w) (.abx w) aslByte LeftFlags 7 s ∧
    CompletesModifying (.lsrZp z) (.zp z) lsrByte RightFlags 5 s ∧
    CompletesInCpu .lsrAcc 2 (fun c d =>
      d = { c with a := lsrByte c.a (flagC c.p), p := d.p, debt := d.debt } ∧
        RightFlags c.p c.a (lsrByte c.a (flagC c.p)) d.p) s ∧
    CompletesModifying (.lsrAbs w) (.abs w) lsrByte RightFlags 6 s ∧
    CompletesModifying (.lsrZpx z) (.zpx z) lsrByte RightFlags 6 s ∧
    CompletesModifying (.lsrAbx w) (.abx w) lsrByte RightFlags 7 s ∧
    CompletesModifying (.rolZp z) (.zp z) rolByte LeftFlags 5 s ∧
    CompletesInCpu .rolAcc 2 (fun c d =>
      d = { c with a := rolByte c.a (flagC c.p), p := d.p, debt := d.debt } ∧
        LeftFlags c.p c.a (rolByte c.a (flagC c.p)) d.p) s ∧
    CompletesModifying (.rolAbs w) (.abs w) rolByte LeftFlags 6 s ∧
    CompletesModifying (.rolZpx z) (.zpx z) rolByte LeftFlags 6 s ∧
    CompletesModifying (.rolAbx w) (.abx w) rolByte LeftFlags 7 s ∧
    CompletesModifying (.rorZp z) (.zp z) rorByte RightFlags 5 s ∧
    CompletesInCpu .rorAcc 2 (fun c d =>
      d = { c with a := rorByte c.a (flagC c.p), p := d.p, debt := d.debt } ∧
        RightFlags c.p c.a (rorByte c.a (flagC c.p)) d.p) s ∧
    CompletesModifying (.rorAbs w) (.abs w) rorByte RightFlags 6 s ∧
    CompletesModifying (.rorZpx z) (.zpx z) rorByte RightFlags 6 s ∧
    CompletesModifying (.rorAbx w) (.abx w) rorByte RightFlags 7 s

/-- R204 to R209 (44_shift_incdec.md), with the cycles of R400. -/
def Obligations.IncrementsAndDecrements : Prop :=
  ∀ (s : State) (z : Byte) (w : Word),
    CompletesModifying (.incZp z) (.zp z) (fun b _ => b + 1#8) StepFlags 5 s ∧
    CompletesModifying (.incAbs w) (.abs w) (fun b _ => b + 1#8) StepFlags 6 s ∧
    CompletesModifying (.incZpx z) (.zpx z) (fun b _ => b + 1#8) StepFlags 6 s ∧
    CompletesModifying (.incAbx w) (.abx w) (fun b _ => b + 1#8) StepFlags 7 s ∧
    CompletesModifying (.decZp z) (.zp z) (fun b _ => b - 1#8) StepFlags 5 s ∧
    CompletesModifying (.decAbs w) (.abs w) (fun b _ => b - 1#8) StepFlags 6 s ∧
    CompletesModifying (.decZpx z) (.zpx z) (fun b _ => b - 1#8) StepFlags 6 s ∧
    CompletesModifying (.decAbx w) (.abx w) (fun b _ => b - 1#8) StepFlags 7 s ∧
    CompletesInCpu .inx 2 (fun c d => LoadsX (c.x + 1#8) c d) s ∧
    CompletesInCpu .iny 2 (fun c d => LoadsY (c.y + 1#8) c d) s ∧
    CompletesInCpu .dex 2 (fun c d => LoadsX (c.x - 1#8) c d) s ∧
    CompletesInCpu .dey 2 (fun c d => LoadsY (c.y - 1#8) c d) s

/-- R220, R221 and R222 (45_control_flow.md). In the state of exec, PC is the address after the instruction. -/
def Obligations.JumpsAndSubroutines : Prop :=
  ∀ (s : State) (w : Word),
    CompletesInCpu (.jmpAbs w) 3 (fun c d => d = { c with pc := w, debt := d.debt }) s ∧
      Completes (.jmpInd w) s (fun t =>
        SameOutsideCpu (address (.ind w) s).state t ∧ OnlyReadEffects s (address (.ind w) s).state ∧ SameBytes s t ∧
          t.cpu = { s.cpu with pc := (address (.ind w) s).ea, debt := s.cpu.debt + 5 }) ∧
      Completes (.jsr w) s (fun t =>
        OnlyPushed s t [hi (s.cpu.pc - 1#16), lo (s.cpu.pc - 1#16)] ∧
          t.cpu = { s.cpu with sp := s.cpu.sp - 2#8, pc := w, debt := s.cpu.debt + 6 }) ∧
      CompletesInCpu .rts 6 (fun c d =>
        d = { c with sp := c.sp + 2#8, pc := word (popped s 2) (popped s 1) + 1#16, debt := d.debt }) s ∧
      (s.Inv → ∀ t, exec (.jsr w) s = .next t →
        Completes .rts t (fun u => u.cpu.pc = s.cpu.pc ∧ u.cpu.sp = s.cpu.sp ∧ u.cpu.p = s.cpu.p))

/-- R143 (40_addressing_modes.md) and R223 to R231 (45_control_flow.md). In the state of exec, PC is the address after the branch. -/
def Obligations.ConditionalBranches : Prop :=
  ∀ (s : State) (off : Byte),
    let target := relTarget s.cpu.pc off
    let branches := fun (i : Byte → Instr) (taken : Bool) =>
      CompletesInCpu (i off) (branchCycles taken target s.cpu.pc)
        (fun c d => d = { c with pc := if taken then target else c.pc, debt := d.debt }) s
    branches .bcc (!flagC s.cpu.p) ∧
    branches .bcs (flagC s.cpu.p) ∧
    branches .beq (flagZ s.cpu.p) ∧
    branches .bne (!flagZ s.cpu.p) ∧
    branches .bmi (flagN s.cpu.p) ∧
    branches .bpl (!flagN s.cpu.p) ∧
    branches .bvc (!flagV s.cpu.p) ∧
    branches .bvs (flagV s.cpu.p)

/-- R232 (45_control_flow.md), as R344 and R351 of 60_exceptions.md sum it up. In the state of exec, PC is the address of BRK plus one. -/
def Obligations.BreakTakesTheIrqVector : Prop :=
  ∀ s : State, Completes .brk s (fun t =>
    ∃ f, PushedFlags s.cpu.p f true ∧ OnlyPushed s t [hi (s.cpu.pc + 1#16), lo (s.cpu.pc + 1#16), f] ∧
      t.cpu = { s.cpu with
        sp := s.cpu.sp - 3#8, p := t.cpu.p, pc := vectorWord s 0xFFFE#16, debt := s.cpu.debt + 7 } ∧
      flagI t.cpu.p = true ∧ SameFlags [0, 1, 3, 4, 5, 6, 7] s.cpu.p t.cpu.p)

/-- R233 (45_control_flow.md) and R349 (60_exceptions.md). -/
def Obligations.ReturnFromInterrupt : Prop :=
  ∀ s : State,
    CompletesInCpu .rti 6 (fun c d =>
      d = { c with sp := c.sp + 3#8, p := d.p, pc := word (popped s 3) (popped s 2), debt := d.debt } ∧
        SameFlags [0, 1, 2, 3, 6, 7] (popped s 1) d.p ∧ d.p.getLsbD 4 = false ∧ d.p.getLsbD 5 = false) s ∧
      (s.Inv →
        let undone := fun (pc : Word) (u : State) => u.cpu.pc = pc ∧ u.cpu.sp = s.cpu.sp ∧ u.cpu.a = s.cpu.a ∧
          u.cpu.x = s.cpu.x ∧ u.cpu.y = s.cpu.y ∧ SameFlags [0, 1, 2, 3, 6, 7] s.cpu.p u.cpu.p
        Completes .rti (cpuNmi s) (undone s.cpu.pc) ∧
          (flagI s.cpu.p = false → Completes .rti (cpuIrq s) (undone s.cpu.pc)) ∧
          ∀ t, exec .brk s = .next t → Completes .rti t (undone (s.cpu.pc + 1#16)))

/-- R240 to R247 (46_flags_nop_illegal.md). -/
def Obligations.FlagInstructionsAndNop : Prop :=
  ∀ s : State,
    CompletesInCpu .clc 2 (SetsFlag 0 false) s ∧ CompletesInCpu .sec 2 (SetsFlag 0 true) s ∧
      CompletesInCpu .cli 2 (SetsFlag 2 false) s ∧ CompletesInCpu .sei 2 (SetsFlag 2 true) s ∧
      CompletesInCpu .cld 2 (SetsFlag 3 false) s ∧ CompletesInCpu .sed 2 (SetsFlag 3 true) s ∧
      CompletesInCpu .clv 2 (SetsFlag 6 false) s ∧ CompletesInCpu .nop 2 (fun c d => d = { c with debt := d.debt }) s

/-- R343 to R346 (60_exceptions.md). -/
def Obligations.InterruptEntry : Prop :=
  ∀ s : State,
    let entered := fun (vec : Word) (t : State) =>
      ∃ f, PushedFlags s.cpu.p f false ∧ OnlyPushed s t [hi s.cpu.pc, lo s.cpu.pc, f] ∧
        t.cpu = { s.cpu with sp := s.cpu.sp - 3#8, p := t.cpu.p, pc := vectorWord s vec, debt := 7 } ∧
        flagI t.cpu.p = true ∧ SameFlags [0, 1, 3, 4, 5, 6, 7] s.cpu.p t.cpu.p
    entered 0xFFFA#16 (cpuNmi s) ∧ (flagI s.cpu.p = false → entered 0xFFFE#16 (cpuIrq s)) ∧
      (flagI s.cpu.p = true → cpuIrq s = s)

/-- R390, R391 and R395 (70_reset_and_hazards.md), R347 and R352 (60_exceptions.md). The script of the host's acts is the model's choice (log 7). -/
def Obligations.SchedulerOrder : Prop :=
  ∀ s : State,
    (s.hostScript.headD [] = [] → hostBoundary s = { s with hostScript := s.hostScript.tail }) ∧
      (∀ e es rest, s.hostScript = (e :: es) :: rest →
        hostBoundary s = hostBoundary (hostAct { s with hostScript := es :: rest } e)) ∧
      (hostAct s .irq = cpuIrq s ∧ hostAct s .nmi = cpuNmi s ∧ hostAct s .reset = cpuReset s ∧
        ∀ b, hostAct s (.setButtons b) = { s with buttons := b }) ∧
      (let u := ppuSteps 3 (hostBoundary s)
       let ended := fun t : State =>
        let c := { t with sysclk := t.sysclk + 1 }
        if t.ppu.nmiPending then cpuNmi { c with ppu := { c.ppu with nmiPending := false } } else c
       (0 < u.cpu.debt → step s = .next (ended { u with cpu := { u.cpu with debt := u.cpu.debt - 1 } })) ∧
        ∀ t, stepCpu u = .next t → step s = .next (ended t))

/-- R30 and R50 (10_state.md), R78 (20_memory.md), R391 (70_reset_and_hazards.md), R347 (60_exceptions.md): true of every step. -/
def Obligations.EveryStepCountsDeliversAndKeepsTheCartridge : Prop :=
  ∀ s t : State, step s = .next t → t.sysclk = s.sysclk + 1 ∧ t.ppu.nmiPending = false ∧ t.config = s.config

/-- R51 (10_state.md) and the evaluation's invariants of R308 and R309 (48_ppu_pipeline.md). -/
def Obligations.StepKeepsTheInvariant : Prop :=
  ∀ s t : State, s.Inv → step s = .next t → t.Inv

/-- R51 and R49 (10_state.md). That its memories list nothing is the model's choice (log 3). -/
def Obligations.ResetMeetsTheInvariant : Prop :=
  State.reset.Inv

/-- R248 (46_flags_nop_illegal.md), R70 (20_memory.md), R396 (70_reset_and_hazards.md). At which point of its tick the fault's state stands, after the three PPU cycles and before the clock count, is the model's reading (log 13). -/
def Obligations.OnlyUndefinedOpcodesStop : Prop :=
  ∀ s : State,
    let u := ppuSteps 3 (hostBoundary s)
    if u.cpu.debt = 0 ∧ (fetch8 u).value ∈ undefinedOpcodes then
      step s = .fault (.illegalOpcode (fetch8 u).value (fetch8 u).state)
    else ∃ t, step s = .next t

/-- R52 (10_state.md). -/
def Obligations.StoredBreakBitsAreUnobservable : Prop :=
  ∀ s t : State, SameButUB s t → OutcomesSameButUB (step s) (step t)
end

