-- ==== Sys2Proof/Laws/Bits.lean ====
section
/-! SUPPORT. The laws of bytes, words and flag bits. -/

namespace Sys2Proof.Machine

@[simp] theorem lo_word (h l : Byte) : lo (word h l) = l := by
  apply BitVec.eq_of_getLsbD_eq
  intro i hi
  simp only [lo, word, BitVec.getLsbD_extractLsb', BitVec.getLsbD_append]
  simp [hi]

@[simp] theorem hi_word (h l : Byte) : hi (word h l) = h := by
  apply BitVec.eq_of_getLsbD_eq
  intro i hi
  simp only [Machine.hi, word, BitVec.getLsbD_extractLsb', BitVec.getLsbD_append]
  simp [hi]

@[simp] theorem word_hi_lo (w : Word) : word (hi w) (lo w) = w := by
  apply BitVec.eq_of_getLsbD_eq
  intro i hi
  simp only [lo, Machine.hi, word, BitVec.getLsbD_extractLsb', BitVec.getLsbD_append]
  by_cases h : i < 8
  · simp [h]
  · have h8 : i - 8 < 8 := by omega
    have : 8 + (i - 8) = i := by omega
    simp [h, h8, this]

theorem word_toNat (h l : Byte) : (word h l).toNat = 256 * h.toNat + l.toNat := by
  simp only [word, BitVec.toNat_append]
  rw [Nat.shiftLeft_eq, Nat.mul_comm, Nat.or_comm]
  have hl := l.isLt
  rw [Nat.or_comm]
  exact (Nat.two_pow_add_eq_or_of_lt hl h.toNat).symm

@[simp] theorem zext16_toNat (b : Byte) : (zext16 b).toNat = b.toNat := by
  have := b.isLt
  simp [zext16]
  omega

/-- Bit `k` of a byte with bit `n` set to `on`. -/
theorem getLsbD_setBit (b : Byte) (n k : Nat) (on : Bool) (hn : n < 8) :
    (setBit b n on).getLsbD k = if k = n then on else b.getLsbD k := by
  by_cases hk : k < 8
  · have hn' : n = 0 ∨ n = 1 ∨ n = 2 ∨ n = 3 ∨ n = 4 ∨ n = 5 ∨ n = 6 ∨ n = 7 := by omega
    have hk' : k = 0 ∨ k = 1 ∨ k = 2 ∨ k = 3 ∨ k = 4 ∨ k = 5 ∨ k = 6 ∨ k = 7 := by omega
    rcases hn' with rfl | rfl | rfl | rfl | rfl | rfl | rfl | rfl <;>
      rcases hk' with rfl | rfl | rfl | rfl | rfl | rfl | rfl | rfl <;>
        cases on <;> simp [setBit]
  · have hne : k ≠ n := by omega
    simp [hne, BitVec.getLsbD_of_ge _ _ (Nat.le_of_not_lt hk)]

@[simp] theorem getLsbD_setC (p : Byte) (on : Bool) (k : Nat) : (setC p on).getLsbD k = if k = 0 then on else p.getLsbD k :=
  getLsbD_setBit p 0 k on (by omega)

@[simp] theorem getLsbD_setZ (p : Byte) (on : Bool) (k : Nat) : (setZ p on).getLsbD k = if k = 1 then on else p.getLsbD k :=
  getLsbD_setBit p 1 k on (by omega)

@[simp] theorem getLsbD_setI (p : Byte) (on : Bool) (k : Nat) : (setI p on).getLsbD k = if k = 2 then on else p.getLsbD k :=
  getLsbD_setBit p 2 k on (by omega)

@[simp] theorem getLsbD_setD (p : Byte) (on : Bool) (k : Nat) : (setD p on).getLsbD k = if k = 3 then on else p.getLsbD k :=
  getLsbD_setBit p 3 k on (by omega)

@[simp] theorem getLsbD_setV (p : Byte) (on : Bool) (k : Nat) : (setV p on).getLsbD k = if k = 6 then on else p.getLsbD k :=
  getLsbD_setBit p 6 k on (by omega)

@[simp] theorem getLsbD_setN (p : Byte) (on : Bool) (k : Nat) : (setN p on).getLsbD k = if k = 7 then on else p.getLsbD k :=
  getLsbD_setBit p 7 k on (by omega)

/-- Bit `k` after `SetZN(v)`. -/
@[simp] theorem getLsbD_setZN (p v : Byte) (k : Nat) :
    (setZN p v).getLsbD k = if k = 7 then v.getLsbD 7 else if k = 1 then decide (v = 0#8) else p.getLsbD k := by
  simp only [setZN, getLsbD_setN, getLsbD_setZ, beq_eq_decide]

/-- The same, on the indexed form in which simp states the bit at a numeral. -/
@[simp] theorem getElem_setC (p : Byte) (on : Bool) (k : Nat) (hk : k < 8) :
    (setC p on)[k] = if k = 0 then on else p[k] := by
  rw [← BitVec.getLsbD_eq_getElem, ← BitVec.getLsbD_eq_getElem, getLsbD_setC]

@[simp] theorem getElem_setZ (p : Byte) (on : Bool) (k : Nat) (hk : k < 8) :
    (setZ p on)[k] = if k = 1 then on else p[k] := by
  rw [← BitVec.getLsbD_eq_getElem, ← BitVec.getLsbD_eq_getElem, getLsbD_setZ]

@[simp] theorem getElem_setI (p : Byte) (on : Bool) (k : Nat) (hk : k < 8) :
    (setI p on)[k] = if k = 2 then on else p[k] := by
  rw [← BitVec.getLsbD_eq_getElem, ← BitVec.getLsbD_eq_getElem, getLsbD_setI]

@[simp] theorem getElem_setD (p : Byte) (on : Bool) (k : Nat) (hk : k < 8) :
    (setD p on)[k] = if k = 3 then on else p[k] := by
  rw [← BitVec.getLsbD_eq_getElem, ← BitVec.getLsbD_eq_getElem, getLsbD_setD]

@[simp] theorem getElem_setV (p : Byte) (on : Bool) (k : Nat) (hk : k < 8) :
    (setV p on)[k] = if k = 6 then on else p[k] := by
  rw [← BitVec.getLsbD_eq_getElem, ← BitVec.getLsbD_eq_getElem, getLsbD_setV]

@[simp] theorem getElem_setN (p : Byte) (on : Bool) (k : Nat) (hk : k < 8) :
    (setN p on)[k] = if k = 7 then on else p[k] := by
  rw [← BitVec.getLsbD_eq_getElem, ← BitVec.getLsbD_eq_getElem, getLsbD_setN]

@[simp] theorem getElem_setZN (p v : Byte) (k : Nat) (hk : k < 8) :
    (setZN p v)[k] = if k = 7 then v[7] else if k = 1 then decide (v = 0#8) else p[k] := by
  rw [← BitVec.getLsbD_eq_getElem, ← BitVec.getLsbD_eq_getElem, ← BitVec.getLsbD_eq_getElem, getLsbD_setZN]

end Sys2Proof.Machine
end

