-- ==== Sys2Proof/Laws/Memory.lean ====
section
/-! SUPPORT. The laws of one memory: read after write, and that writing keeps the canonical form and the bound. -/

namespace Sys2Proof

variable {w : Nat}

theorem Memory.read_insert (m : Memory w) (a b : Nat) (v : BitVec w) :
    (m.insert a v).read b = if b = a then v else m.read b := by
  induction m with
  | nil => by_cases h : b = a <;> simp [Memory.insert, Memory.read, h]
  | cons c rest ih =>
    obtain ⟨k, u⟩ := c
    simp only [Memory.insert]
    split
    · by_cases h : b = a <;> simp [Memory.read, h]
    · split
      · subst_vars
        by_cases h : b = k <;> simp [Memory.read, h]
      · by_cases h : b = k
        · subst h
          simp [Memory.read, Ne.symm (by assumption : ¬a = b)]
        · simp [Memory.read, h, ih]

/-- The indexes listed from `low` on start at `low` or above. -/
theorem Memory.read_below (m : Memory w) (low a : Nat) (h : m.wfFrom low = true) (ha : a < low) :
    m.read a = Memory.unlisted w := by
  induction m generalizing low with
  | nil => rfl
  | cons c rest ih =>
    obtain ⟨k, u⟩ := c
    simp only [Memory.wfFrom, Bool.and_eq_true, decide_eq_true_eq] at h
    have hk : ¬a = k := by omega
    simp only [Memory.read, hk, if_false]
    exact ih (k + 1) h.2 (by omega)

theorem Memory.read_erase (m : Memory w) (low a b : Nat) (h : m.wfFrom low = true) :
    (m.erase a).read b = if b = a then Memory.unlisted w else m.read b := by
  induction m generalizing low with
  | nil => simp [Memory.erase, Memory.read]
  | cons c rest ih =>
    obtain ⟨k, u⟩ := c
    simp only [Memory.wfFrom, Bool.and_eq_true, decide_eq_true_eq] at h
    simp only [Memory.erase]
    by_cases hak : a = k
    · subst hak
      simp only [if_true]
      by_cases hb : b = a
      · subst hb
        simp [Memory.read_below rest (b + 1) b h.2 (by omega)]
      · simp [Memory.read, hb]
    · simp only [hak, if_false]
      by_cases hb : b = k
      · subst hb
        simp [Memory.read, Ne.symm hak]
      · simp [Memory.read, hb, ih (k + 1) h.2]

/-- Read after write. -/
theorem Memory.read_write (m : Memory w) (h : m.wf = true) (a b : Nat) (v : BitVec w) :
    (m.write a v).read b = if b = a then v else m.read b := by
  simp only [Memory.write]
  split
  · subst_vars
    exact Memory.read_erase m 0 a b h
  · exact Memory.read_insert m a b v

theorem Memory.read_write_same (m : Memory w) (h : m.wf = true) (a : Nat) (v : BitVec w) :
    (m.write a v).read a = v := by
  simp [Memory.read_write m h]

theorem Memory.read_erase_other (m : Memory w) (a b : Nat) (h : b ≠ a) : (m.erase a).read b = m.read b := by
  induction m with
  | nil => rfl
  | cons c rest ih =>
    obtain ⟨k, u⟩ := c
    simp only [Memory.erase]
    by_cases hak : a = k
    · subst hak
      simp [Memory.read, h]
    · by_cases hb : b = k <;> simp [Memory.read, hak, hb, ih]

/-- A write leaves every other index alone, in any list. -/
theorem Memory.read_write_other (m : Memory w) (a b : Nat) (v : BitVec w) (h : b ≠ a) :
    (m.write a v).read b = m.read b := by
  simp only [Memory.write]
  split
  · exact Memory.read_erase_other m a b h
  · simp [Memory.read_insert, h]

theorem Memory.wfFrom_mono (m : Memory w) (l l' : Nat) (hl : l' ≤ l) (h : m.wfFrom l = true) : m.wfFrom l' = true := by
  cases m with
  | nil => rfl
  | cons c rest =>
    simp only [Memory.wfFrom, Bool.and_eq_true, decide_eq_true_eq] at h ⊢
    exact ⟨⟨by omega, h.1.2⟩, h.2⟩

theorem Memory.wfFrom_insert (m : Memory w) (low a : Nat) (v : BitVec w) (h : m.wfFrom low = true) (ha : low ≤ a)
    (hv : v ≠ Memory.unlisted w) : (m.insert a v).wfFrom low = true := by
  induction m generalizing low with
  | nil => simp [Memory.insert, Memory.wfFrom, ha, hv]
  | cons c rest ih =>
    obtain ⟨k, u⟩ := c
    simp only [Memory.wfFrom, Bool.and_eq_true, decide_eq_true_eq] at h
    simp only [Memory.insert]
    split
    · simp only [Memory.wfFrom, Bool.and_eq_true, decide_eq_true_eq]
      exact ⟨⟨ha, hv⟩, ⟨by omega, h.1.2⟩, h.2⟩
    · split
      · subst_vars
        simp only [Memory.wfFrom, Bool.and_eq_true, decide_eq_true_eq]
        exact ⟨⟨ha, hv⟩, h.2⟩
      · simp only [Memory.wfFrom, Bool.and_eq_true, decide_eq_true_eq]
        exact ⟨h.1, ih (k + 1) h.2 (by omega)⟩

theorem Memory.wfFrom_erase (m : Memory w) (low a : Nat) (h : m.wfFrom low = true) : (m.erase a).wfFrom low = true := by
  induction m generalizing low with
  | nil => rfl
  | cons c rest ih =>
    obtain ⟨k, u⟩ := c
    simp only [Memory.wfFrom, Bool.and_eq_true, decide_eq_true_eq] at h
    simp only [Memory.erase]
    split
    · exact Memory.wfFrom_mono rest (k + 1) low (by omega) h.2
    · simp only [Memory.wfFrom, Bool.and_eq_true, decide_eq_true_eq]
      exact ⟨h.1, ih (k + 1) h.2⟩

/-- Writing keeps the canonical form. -/
theorem Memory.wf_write (m : Memory w) (a : Nat) (v : BitVec w) (h : m.wf = true) : (m.write a v).wf = true := by
  simp only [Memory.write]
  split
  · exact Memory.wfFrom_erase m 0 a h
  · exact Memory.wfFrom_insert m 0 a v h (Nat.zero_le a) (by assumption)

theorem Memory.below_insert (m : Memory w) (size a : Nat) (v : BitVec w) (h : m.below size = true) (ha : a < size) :
    (m.insert a v).below size = true := by
  induction m with
  | nil => simp [Memory.insert, Memory.below, ha]
  | cons c rest ih =>
    obtain ⟨k, u⟩ := c
    simp only [Memory.below, List.all_cons, Bool.and_eq_true, decide_eq_true_eq] at h ih ⊢
    simp only [Memory.insert]
    split
    · simp [ha, h]
    · split
      · simp [ha, h]
      · simp [h, ih h.2]

theorem Memory.below_erase (m : Memory w) (size a : Nat) (h : m.below size = true) : (m.erase a).below size = true := by
  induction m with
  | nil => rfl
  | cons c rest ih =>
    obtain ⟨k, u⟩ := c
    simp only [Memory.below, List.all_cons, Bool.and_eq_true, decide_eq_true_eq] at h ih ⊢
    simp only [Memory.erase]
    split
    · exact h.2
    · simp [h, ih h.2]

/-- Writing in bounds keeps the canonical form and the bound. -/
theorem Memory.wfIn_write (m : Memory w) (size a : Nat) (v : BitVec w) (h : m.wfIn size = true) (ha : a < size) :
    (m.write a v).wfIn size = true := by
  simp only [Memory.wfIn, Bool.and_eq_true] at h ⊢
  refine ⟨Memory.wf_write m a v h.1, ?_⟩
  simp only [Memory.write]
  split
  · exact Memory.below_erase m size a h.2
  · exact Memory.below_insert m size a v h.2 ha

theorem Memory.wf_of_wfIn (m : Memory w) (size : Nat) (h : m.wfIn size = true) : m.wf = true := by
  simp only [Memory.wfIn, Bool.and_eq_true] at h
  exact h.1

/-- Two memories in canonical form that read alike are equal data. -/
theorem Memory.eq_of_read (m m' : Memory w) (low : Nat) (h : m.wfFrom low = true) (h' : m'.wfFrom low = true)
    (hr : ∀ a, m.read a = m'.read a) : m = m' := by
  induction m generalizing m' low with
  | nil =>
    cases m' with
    | nil => rfl
    | cons c rest =>
      obtain ⟨k, u⟩ := c
      simp only [Memory.wfFrom, Bool.and_eq_true, decide_eq_true_eq] at h'
      exact absurd (by simpa [Memory.read] using (hr k).symm) h'.1.2
  | cons c rest ih =>
    obtain ⟨k, u⟩ := c
    cases m' with
    | nil =>
      simp only [Memory.wfFrom, Bool.and_eq_true, decide_eq_true_eq] at h
      exact absurd (by simpa [Memory.read] using hr k) h.1.2
    | cons c' rest' =>
      obtain ⟨k', u'⟩ := c'
      simp only [Memory.wfFrom, Bool.and_eq_true, decide_eq_true_eq] at h h'
      have hk : k = k' := by
        rcases Nat.lt_trichotomy k k' with hlt | heq | hgt
        · have := hr k
          rw [Memory.read_below ((k', u') :: rest') k' k (by simp [Memory.wfFrom, h'.1.2, h'.2]) hlt] at this
          exact absurd (by simpa [Memory.read] using this) h.1.2
        · exact heq
        · have := hr k'
          rw [Memory.read_below ((k, u) :: rest) k k' (by simp [Memory.wfFrom, h.1.2, h.2]) hgt] at this
          exact absurd (by simpa [Memory.read] using this.symm) h'.1.2
      subst hk
      have hu : u = u' := by simpa [Memory.read] using hr k
      subst hu
      have : rest = rest' := by
        refine ih rest' (k + 1) h.2 h'.2 fun a => ?_
        by_cases ha : a = k
        · rw [Memory.read_below rest (k + 1) a h.2 (by omega), Memory.read_below rest' (k + 1) a h'.2 (by omega)]
        · simpa [Memory.read, ha] using hr a
      rw [this]

end Sys2Proof
end

