-- ==== Sys2Proof/Laws/State.lean ====
section
/-! SUPPORT. One lemma per field per named register update, each true by unfolding once. -/

namespace Sys2Proof.Machine

@[simp] theorem setA_a (s : State) (v : Byte) : (setA s v).cpu.a = v := rfl
@[simp] theorem setA_x (s : State) (v : Byte) : (setA s v).cpu.x = s.cpu.x := rfl
@[simp] theorem setA_y (s : State) (v : Byte) : (setA s v).cpu.y = s.cpu.y := rfl
@[simp] theorem setA_sp (s : State) (v : Byte) : (setA s v).cpu.sp = s.cpu.sp := rfl
@[simp] theorem setA_p (s : State) (v : Byte) : (setA s v).cpu.p = s.cpu.p := rfl
@[simp] theorem setA_pc (s : State) (v : Byte) : (setA s v).cpu.pc = s.cpu.pc := rfl
@[simp] theorem setA_debt (s : State) (v : Byte) : (setA s v).cpu.debt = s.cpu.debt := rfl
@[simp] theorem setA_ppu (s : State) (v : Byte) : (setA s v).ppu = s.ppu := rfl
@[simp] theorem setA_config (s : State) (v : Byte) : (setA s v).config = s.config := rfl
@[simp] theorem setA_ram (s : State) (v : Byte) : (setA s v).ram = s.ram := rfl
@[simp] theorem setA_unmapped (s : State) (v : Byte) : (setA s v).unmapped = s.unmapped := rfl
@[simp] theorem setA_prgRam (s : State) (v : Byte) : (setA s v).prgRam = s.prgRam := rfl
@[simp] theorem setA_chrRam (s : State) (v : Byte) : (setA s v).chrRam = s.chrRam := rfl
@[simp] theorem setA_ctrlLatch (s : State) (v : Byte) : (setA s v).ctrlLatch = s.ctrlLatch := rfl
@[simp] theorem setA_buttons (s : State) (v : Byte) : (setA s v).buttons = s.buttons := rfl
@[simp] theorem setA_sysclk (s : State) (v : Byte) : (setA s v).sysclk = s.sysclk := rfl
@[simp] theorem setA_draws (s : State) (v : Byte) : (setA s v).draws = s.draws := rfl
@[simp] theorem setA_hostScript (s : State) (v : Byte) : (setA s v).hostScript = s.hostScript := rfl

@[simp] theorem setX_a (s : State) (v : Byte) : (setX s v).cpu.a = s.cpu.a := rfl
@[simp] theorem setX_x (s : State) (v : Byte) : (setX s v).cpu.x = v := rfl
@[simp] theorem setX_y (s : State) (v : Byte) : (setX s v).cpu.y = s.cpu.y := rfl
@[simp] theorem setX_sp (s : State) (v : Byte) : (setX s v).cpu.sp = s.cpu.sp := rfl
@[simp] theorem setX_p (s : State) (v : Byte) : (setX s v).cpu.p = s.cpu.p := rfl
@[simp] theorem setX_pc (s : State) (v : Byte) : (setX s v).cpu.pc = s.cpu.pc := rfl
@[simp] theorem setX_debt (s : State) (v : Byte) : (setX s v).cpu.debt = s.cpu.debt := rfl
@[simp] theorem setX_ppu (s : State) (v : Byte) : (setX s v).ppu = s.ppu := rfl
@[simp] theorem setX_config (s : State) (v : Byte) : (setX s v).config = s.config := rfl
@[simp] theorem setX_ram (s : State) (v : Byte) : (setX s v).ram = s.ram := rfl
@[simp] theorem setX_unmapped (s : State) (v : Byte) : (setX s v).unmapped = s.unmapped := rfl
@[simp] theorem setX_prgRam (s : State) (v : Byte) : (setX s v).prgRam = s.prgRam := rfl
@[simp] theorem setX_chrRam (s : State) (v : Byte) : (setX s v).chrRam = s.chrRam := rfl
@[simp] theorem setX_ctrlLatch (s : State) (v : Byte) : (setX s v).ctrlLatch = s.ctrlLatch := rfl
@[simp] theorem setX_buttons (s : State) (v : Byte) : (setX s v).buttons = s.buttons := rfl
@[simp] theorem setX_sysclk (s : State) (v : Byte) : (setX s v).sysclk = s.sysclk := rfl
@[simp] theorem setX_draws (s : State) (v : Byte) : (setX s v).draws = s.draws := rfl
@[simp] theorem setX_hostScript (s : State) (v : Byte) : (setX s v).hostScript = s.hostScript := rfl

@[simp] theorem setY_a (s : State) (v : Byte) : (setY s v).cpu.a = s.cpu.a := rfl
@[simp] theorem setY_x (s : State) (v : Byte) : (setY s v).cpu.x = s.cpu.x := rfl
@[simp] theorem setY_y (s : State) (v : Byte) : (setY s v).cpu.y = v := rfl
@[simp] theorem setY_sp (s : State) (v : Byte) : (setY s v).cpu.sp = s.cpu.sp := rfl
@[simp] theorem setY_p (s : State) (v : Byte) : (setY s v).cpu.p = s.cpu.p := rfl
@[simp] theorem setY_pc (s : State) (v : Byte) : (setY s v).cpu.pc = s.cpu.pc := rfl
@[simp] theorem setY_debt (s : State) (v : Byte) : (setY s v).cpu.debt = s.cpu.debt := rfl
@[simp] theorem setY_ppu (s : State) (v : Byte) : (setY s v).ppu = s.ppu := rfl
@[simp] theorem setY_config (s : State) (v : Byte) : (setY s v).config = s.config := rfl
@[simp] theorem setY_ram (s : State) (v : Byte) : (setY s v).ram = s.ram := rfl
@[simp] theorem setY_unmapped (s : State) (v : Byte) : (setY s v).unmapped = s.unmapped := rfl
@[simp] theorem setY_prgRam (s : State) (v : Byte) : (setY s v).prgRam = s.prgRam := rfl
@[simp] theorem setY_chrRam (s : State) (v : Byte) : (setY s v).chrRam = s.chrRam := rfl
@[simp] theorem setY_ctrlLatch (s : State) (v : Byte) : (setY s v).ctrlLatch = s.ctrlLatch := rfl
@[simp] theorem setY_buttons (s : State) (v : Byte) : (setY s v).buttons = s.buttons := rfl
@[simp] theorem setY_sysclk (s : State) (v : Byte) : (setY s v).sysclk = s.sysclk := rfl
@[simp] theorem setY_draws (s : State) (v : Byte) : (setY s v).draws = s.draws := rfl
@[simp] theorem setY_hostScript (s : State) (v : Byte) : (setY s v).hostScript = s.hostScript := rfl

@[simp] theorem setSp_a (s : State) (v : Byte) : (setSp s v).cpu.a = s.cpu.a := rfl
@[simp] theorem setSp_x (s : State) (v : Byte) : (setSp s v).cpu.x = s.cpu.x := rfl
@[simp] theorem setSp_y (s : State) (v : Byte) : (setSp s v).cpu.y = s.cpu.y := rfl
@[simp] theorem setSp_sp (s : State) (v : Byte) : (setSp s v).cpu.sp = v := rfl
@[simp] theorem setSp_p (s : State) (v : Byte) : (setSp s v).cpu.p = s.cpu.p := rfl
@[simp] theorem setSp_pc (s : State) (v : Byte) : (setSp s v).cpu.pc = s.cpu.pc := rfl
@[simp] theorem setSp_debt (s : State) (v : Byte) : (setSp s v).cpu.debt = s.cpu.debt := rfl
@[simp] theorem setSp_ppu (s : State) (v : Byte) : (setSp s v).ppu = s.ppu := rfl
@[simp] theorem setSp_config (s : State) (v : Byte) : (setSp s v).config = s.config := rfl
@[simp] theorem setSp_ram (s : State) (v : Byte) : (setSp s v).ram = s.ram := rfl
@[simp] theorem setSp_unmapped (s : State) (v : Byte) : (setSp s v).unmapped = s.unmapped := rfl
@[simp] theorem setSp_prgRam (s : State) (v : Byte) : (setSp s v).prgRam = s.prgRam := rfl
@[simp] theorem setSp_chrRam (s : State) (v : Byte) : (setSp s v).chrRam = s.chrRam := rfl
@[simp] theorem setSp_ctrlLatch (s : State) (v : Byte) : (setSp s v).ctrlLatch = s.ctrlLatch := rfl
@[simp] theorem setSp_buttons (s : State) (v : Byte) : (setSp s v).buttons = s.buttons := rfl
@[simp] theorem setSp_sysclk (s : State) (v : Byte) : (setSp s v).sysclk = s.sysclk := rfl
@[simp] theorem setSp_draws (s : State) (v : Byte) : (setSp s v).draws = s.draws := rfl
@[simp] theorem setSp_hostScript (s : State) (v : Byte) : (setSp s v).hostScript = s.hostScript := rfl

@[simp] theorem setP_a (s : State) (v : Byte) : (setP s v).cpu.a = s.cpu.a := rfl
@[simp] theorem setP_x (s : State) (v : Byte) : (setP s v).cpu.x = s.cpu.x := rfl
@[simp] theorem setP_y (s : State) (v : Byte) : (setP s v).cpu.y = s.cpu.y := rfl
@[simp] theorem setP_sp (s : State) (v : Byte) : (setP s v).cpu.sp = s.cpu.sp := rfl
@[simp] theorem setP_p (s : State) (v : Byte) : (setP s v).cpu.p = v := rfl
@[simp] theorem setP_pc (s : State) (v : Byte) : (setP s v).cpu.pc = s.cpu.pc := rfl
@[simp] theorem setP_debt (s : State) (v : Byte) : (setP s v).cpu.debt = s.cpu.debt := rfl
@[simp] theorem setP_ppu (s : State) (v : Byte) : (setP s v).ppu = s.ppu := rfl
@[simp] theorem setP_config (s : State) (v : Byte) : (setP s v).config = s.config := rfl
@[simp] theorem setP_ram (s : State) (v : Byte) : (setP s v).ram = s.ram := rfl
@[simp] theorem setP_unmapped (s : State) (v : Byte) : (setP s v).unmapped = s.unmapped := rfl
@[simp] theorem setP_prgRam (s : State) (v : Byte) : (setP s v).prgRam = s.prgRam := rfl
@[simp] theorem setP_chrRam (s : State) (v : Byte) : (setP s v).chrRam = s.chrRam := rfl
@[simp] theorem setP_ctrlLatch (s : State) (v : Byte) : (setP s v).ctrlLatch = s.ctrlLatch := rfl
@[simp] theorem setP_buttons (s : State) (v : Byte) : (setP s v).buttons = s.buttons := rfl
@[simp] theorem setP_sysclk (s : State) (v : Byte) : (setP s v).sysclk = s.sysclk := rfl
@[simp] theorem setP_draws (s : State) (v : Byte) : (setP s v).draws = s.draws := rfl
@[simp] theorem setP_hostScript (s : State) (v : Byte) : (setP s v).hostScript = s.hostScript := rfl

@[simp] theorem setPc_a (s : State) (v : Word) : (setPc s v).cpu.a = s.cpu.a := rfl
@[simp] theorem setPc_x (s : State) (v : Word) : (setPc s v).cpu.x = s.cpu.x := rfl
@[simp] theorem setPc_y (s : State) (v : Word) : (setPc s v).cpu.y = s.cpu.y := rfl
@[simp] theorem setPc_sp (s : State) (v : Word) : (setPc s v).cpu.sp = s.cpu.sp := rfl
@[simp] theorem setPc_p (s : State) (v : Word) : (setPc s v).cpu.p = s.cpu.p := rfl
@[simp] theorem setPc_pc (s : State) (v : Word) : (setPc s v).cpu.pc = v := rfl
@[simp] theorem setPc_debt (s : State) (v : Word) : (setPc s v).cpu.debt = s.cpu.debt := rfl
@[simp] theorem setPc_ppu (s : State) (v : Word) : (setPc s v).ppu = s.ppu := rfl
@[simp] theorem setPc_config (s : State) (v : Word) : (setPc s v).config = s.config := rfl
@[simp] theorem setPc_ram (s : State) (v : Word) : (setPc s v).ram = s.ram := rfl
@[simp] theorem setPc_unmapped (s : State) (v : Word) : (setPc s v).unmapped = s.unmapped := rfl
@[simp] theorem setPc_prgRam (s : State) (v : Word) : (setPc s v).prgRam = s.prgRam := rfl
@[simp] theorem setPc_chrRam (s : State) (v : Word) : (setPc s v).chrRam = s.chrRam := rfl
@[simp] theorem setPc_ctrlLatch (s : State) (v : Word) : (setPc s v).ctrlLatch = s.ctrlLatch := rfl
@[simp] theorem setPc_buttons (s : State) (v : Word) : (setPc s v).buttons = s.buttons := rfl
@[simp] theorem setPc_sysclk (s : State) (v : Word) : (setPc s v).sysclk = s.sysclk := rfl
@[simp] theorem setPc_draws (s : State) (v : Word) : (setPc s v).draws = s.draws := rfl
@[simp] theorem setPc_hostScript (s : State) (v : Word) : (setPc s v).hostScript = s.hostScript := rfl

@[simp] theorem setDebt_a (s : State) (v : Nat) : (setDebt s v).cpu.a = s.cpu.a := rfl
@[simp] theorem setDebt_x (s : State) (v : Nat) : (setDebt s v).cpu.x = s.cpu.x := rfl
@[simp] theorem setDebt_y (s : State) (v : Nat) : (setDebt s v).cpu.y = s.cpu.y := rfl
@[simp] theorem setDebt_sp (s : State) (v : Nat) : (setDebt s v).cpu.sp = s.cpu.sp := rfl
@[simp] theorem setDebt_p (s : State) (v : Nat) : (setDebt s v).cpu.p = s.cpu.p := rfl
@[simp] theorem setDebt_pc (s : State) (v : Nat) : (setDebt s v).cpu.pc = s.cpu.pc := rfl
@[simp] theorem setDebt_debt (s : State) (v : Nat) : (setDebt s v).cpu.debt = v := rfl
@[simp] theorem setDebt_ppu (s : State) (v : Nat) : (setDebt s v).ppu = s.ppu := rfl
@[simp] theorem setDebt_config (s : State) (v : Nat) : (setDebt s v).config = s.config := rfl
@[simp] theorem setDebt_ram (s : State) (v : Nat) : (setDebt s v).ram = s.ram := rfl
@[simp] theorem setDebt_unmapped (s : State) (v : Nat) : (setDebt s v).unmapped = s.unmapped := rfl
@[simp] theorem setDebt_prgRam (s : State) (v : Nat) : (setDebt s v).prgRam = s.prgRam := rfl
@[simp] theorem setDebt_chrRam (s : State) (v : Nat) : (setDebt s v).chrRam = s.chrRam := rfl
@[simp] theorem setDebt_ctrlLatch (s : State) (v : Nat) : (setDebt s v).ctrlLatch = s.ctrlLatch := rfl
@[simp] theorem setDebt_buttons (s : State) (v : Nat) : (setDebt s v).buttons = s.buttons := rfl
@[simp] theorem setDebt_sysclk (s : State) (v : Nat) : (setDebt s v).sysclk = s.sysclk := rfl
@[simp] theorem setDebt_draws (s : State) (v : Nat) : (setDebt s v).draws = s.draws := rfl
@[simp] theorem setDebt_hostScript (s : State) (v : Nat) : (setDebt s v).hostScript = s.hostScript := rfl

end Sys2Proof.Machine
end

