-- ==== Sys2Proof/Laws/Ops.lean ====
section
/-! SUPPORT. What each operation over memory and registers can do, said once (20_memory.md, 42_stack.md, 47_ppu_registers.md). -/

namespace Sys2Proof.Machine

/-! ## Reading the bus -/

theorem OnlyReadEffects.refl (s : State) : OnlyReadEffects s s := rfl

theorem OnlyReadEffects.trans {s t u : State} (h : OnlyReadEffects s t) (k : OnlyReadEffects t u) : OnlyReadEffects s u := by
  unfold OnlyReadEffects at *
  rw [h] at k
  exact k

theorem readStatus_effects (s : State) : OnlyReadEffects s (readStatus s).state := rfl
theorem readPpuData_effects (s : State) : OnlyReadEffects s (readPpuData s).state := rfl
theorem readOpenBus_effects (s : State) : OnlyReadEffects s (readOpenBus s).state := rfl

theorem ppuRegRead_effects (s : State) (r : BitVec 3) : OnlyReadEffects s (ppuRegRead s r).state := by
  unfold ppuRegRead
  split
  · exact readStatus_effects s
  · exact OnlyReadEffects.refl s
  · exact readPpuData_effects s
  · exact readOpenBus_effects s

/-- A bus read changes only what 20_memory.md R87 names. -/
theorem memRead_effects (s : State) (a : Word) : OnlyReadEffects s (memRead s a).state := by
  unfold memRead
  split
  · exact OnlyReadEffects.refl s
  · split
    · exact ppuRegRead_effects s _
    · split
      · rfl
      · exact OnlyReadEffects.refl s

section
variable {s t : State} (h : OnlyReadEffects s t)
include h

theorem OnlyReadEffects.cpu : t.cpu = s.cpu := by rw [h]
theorem OnlyReadEffects.config : t.config = s.config := by rw [h]
theorem OnlyReadEffects.ram : t.ram = s.ram := by rw [h]
theorem OnlyReadEffects.unmapped : t.unmapped = s.unmapped := by rw [h]
theorem OnlyReadEffects.prgRam : t.prgRam = s.prgRam := by rw [h]
theorem OnlyReadEffects.chrRam : t.chrRam = s.chrRam := by rw [h]
theorem OnlyReadEffects.buttons : t.buttons = s.buttons := by rw [h]
theorem OnlyReadEffects.sysclk : t.sysclk = s.sysclk := by rw [h]
theorem OnlyReadEffects.hostScript : t.hostScript = s.hostScript := by rw [h]
theorem OnlyReadEffects.oam : t.ppu.oam = s.ppu.oam := by rw [h]
theorem OnlyReadEffects.oamaddr : t.ppu.oamaddr = s.ppu.oamaddr := by rw [h]

/-- The PPU's part of a bus read's side effects. -/
theorem OnlyReadEffects.registers : OnlyRegisterState s.ppu t.ppu := by
  unfold OnlyRegisterState
  rw [h]

/-- A bus read leaves every byte of memory alone. -/
theorem OnlyReadEffects.sameBytes : SameBytes s t := by
  intro m n
  rw [h]
  cases m <;> rfl

theorem OnlyReadEffects.inv (hs : s.Inv) : t.Inv := by
  rw [h]
  exact ⟨⟨hs.ppu.oam, hs.ppu.soam, hs.ppu.nt, hs.ppu.pal, hs.ppu.framebuffer, hs.ppu.slots, hs.ppu.cycle, hs.ppu.scanlineLow,
    hs.ppu.scanlineHigh, hs.ppu.found, hs.ppu.scan, hs.ppu.copy⟩, hs.ram, hs.unmapped, hs.prgRam, hs.chrRam⟩

end

@[simp] theorem memRead_cpu (s : State) (a : Word) : (memRead s a).state.cpu = s.cpu := (memRead_effects s a).cpu
@[simp] theorem memRead_config (s : State) (a : Word) : (memRead s a).state.config = s.config := (memRead_effects s a).config
@[simp] theorem memRead_ram (s : State) (a : Word) : (memRead s a).state.ram = s.ram := (memRead_effects s a).ram
@[simp] theorem memRead_sysclk (s : State) (a : Word) : (memRead s a).state.sysclk = s.sysclk := (memRead_effects s a).sysclk
@[simp] theorem memRead_oamaddr (s : State) (a : Word) : (memRead s a).state.ppu.oamaddr = s.ppu.oamaddr :=
  (memRead_effects s a).oamaddr
@[simp] theorem memRead_hostScript (s : State) (a : Word) : (memRead s a).state.hostScript = s.hostScript :=
  (memRead_effects s a).hostScript

/-- A read without side effects gives the plain byte and leaves the state alone (20_memory.md R61, R87). -/
theorem memRead_plain (s : State) (a : Word) (h : PlainRead a) : memRead s a = { value := plainByte s a, state := s } := by
  unfold memRead plainByte
  rcases h with h | ⟨h, hne⟩
  · simp [h, ramIndex, byteAt, storeOf]
  · have h1 : ¬a.toNat ≤ 0x1FFF := by omega
    have h2 : ¬a.toNat ≤ 0x3FFF := by omega
    simp only [h1, h2, hne, if_false, mapperCpuRead, prgOffset, Config.prgSize, inPrgRam]
    by_cases h3 : 0x8000 ≤ a.toNat
    · simp [h3]
    · have h4 : a.toNat < 0x8000 := by omega
      simp [h3, h4, byteAt, storeOf]

/-! ## The stack -/

theorem stackAddress_toNat (sp : Byte) : (stackAddress sp).toNat = 256 + sp.toNat := by
  simp [stackAddress, word_toNat]

theorem stackAddress_ram (sp : Byte) : (stackAddress sp).toNat ≤ 0x1FFF := by
  have := sp.isLt
  rw [stackAddress_toNat]
  omega

theorem stackIndex (sp : Byte) : ramIndex (stackAddress sp) = 256 + sp.toNat := by
  have := sp.isLt
  simp only [ramIndex, stackAddress_toNat]
  omega

/-- A push writes the byte of RAM at the stack pointer and moves the pointer, and nothing else (42_stack.md R170). -/
theorem push8_eq (s : State) (v : Byte) :
    push8 s v = { s with ram := s.ram.write (256 + s.cpu.sp.toNat) v, cpu := { s.cpu with sp := s.cpu.sp - 1#8 } } := by
  simp [push8, memWrite, stackAddress_ram, stackIndex, setSp]

/-- A pop moves the stack pointer and reads the byte of RAM there, and nothing else (42_stack.md R171). -/
theorem pop8_eq (s : State) :
    pop8 s = { value := s.ram.read (256 + (s.cpu.sp + 1#8).toNat), state := setSp s (s.cpu.sp + 1#8) } := by
  simp [pop8, memRead, stackAddress_ram, stackIndex, setSp]

/-! ## Vectors and exceptions -/

/-- Loading PC from a vector in program ROM changes PC alone (60_exceptions.md R341). -/
theorem loadVector_eq (s : State) (vec : Word) (h : 0x8000 ≤ vec.toNat) (h' : 0x8000 ≤ (vec + 1#16).toNat) :
    loadVector s vec = setPc s (word (plainByte s (vec + 1#16)) (plainByte s vec)) := by
  have p1 : PlainRead vec := Or.inr ⟨by omega, by rintro rfl; simp at h⟩
  have p2 : PlainRead (vec + 1#16) := Or.inr ⟨by omega, by intro e; rw [e] at h'; simp at h'⟩
  simp [loadVector, memRead_plain _ _ p1, memRead_plain _ _ p2]

/-- The byte of program ROM behind an address at or above $8000 depends on the configuration alone. -/
theorem plainByte_rom (s t : State) (a : Word) (h : 0x8000 ≤ a.toNat) (hc : t.config = s.config) :
    plainByte t a = plainByte s a := by
  have h1 : ¬a.toNat ≤ 0x1FFF := by omega
  simp [plainByte, h, h1, hc]

/-- Taking an exception: three bytes pushed, `I` set, PC from the vector, and nothing else (60_exceptions.md R343, R344). -/
theorem enterVector_eq (s : State) (pushed : Byte) (vec : Word) (h : 0x8000 ≤ vec.toNat) (h' : 0x8000 ≤ (vec + 1#16).toNat) :
    enterVector s pushed vec = { s with
      ram := ((s.ram.write (256 + s.cpu.sp.toNat) (hi s.cpu.pc)).write (256 + (s.cpu.sp - 1#8).toNat) (lo s.cpu.pc)).write
        (256 + (s.cpu.sp - 2#8).toNat) pushed
      cpu := { s.cpu with
        sp := s.cpu.sp - 3#8, p := setI s.cpu.p true, pc := word (plainByte s (vec + 1#16)) (plainByte s vec) } } := by
  have e1 : s.cpu.sp - 1#8 - 1#8 = s.cpu.sp - 2#8 := by bv_omega
  have e2 : s.cpu.sp - 2#8 - 1#8 = s.cpu.sp - 3#8 := by bv_omega
  simp only [enterVector, loadVector_eq _ _ h h', push8_eq, setP, setPc, e1, e2]
  congr 2
  · exact congrArg₂ word (plainByte_rom _ _ _ h' rfl) (plainByte_rom _ _ _ h rfl)

/-! ## Writing the bus -/

theorem OnlyRegisterState.refl (p : Ppu) : OnlyRegisterState p p := rfl

theorem OnlyRegisterState.trans {p q r : Ppu} (h : OnlyRegisterState p q) (k : OnlyRegisterState q r) :
    OnlyRegisterState p r := by
  unfold OnlyRegisterState at *
  rw [h] at k
  exact k

theorem ppuWrite_registers (s : State) (a : Word) (d : Byte) : OnlyRegisterState s.ppu (ppuWrite s a d).ppu := by
  unfold ppuWrite
  dsimp only
  split
  · split <;> rfl
  · split <;> rfl

theorem writePpuData_registers (s : State) (d : Byte) : OnlyRegisterState s.ppu (writePpuData s d).ppu := by
  have h := ppuWrite_registers s (s.ppu.v &&& 0x3FFF#16) d
  exact h.trans rfl

theorem writeScroll_registers (s : State) (d : Byte) : OnlyRegisterState s.ppu (writeScroll s d).ppu := by
  unfold writeScroll writeScrollFirst writeScrollSecond
  dsimp only
  split <;> split <;> rfl

theorem writeAddr_registers (s : State) (d : Byte) : OnlyRegisterState s.ppu (writeAddr s d).ppu := by
  unfold writeAddr
  dsimp only
  split <;> rfl

/-- A register write changes only register state and PPU memory (47_ppu_registers.md R277). -/
theorem ppuRegWrite_registers (s : State) (r : BitVec 3) (d : Byte) : OnlyRegisterState s.ppu (ppuRegWrite s r d).ppu := by
  unfold ppuRegWrite
  split
  · rfl
  · rfl
  · rfl
  · rfl
  · rfl
  · exact writeScroll_registers s d
  · exact writeAddr_registers s d
  · exact writePpuData_registers s d

/-- Outside the PPU a register write changes CHR-RAM at most. -/
theorem ppuRegWrite_outside (s : State) (r : BitVec 3) (d : Byte) :
    ppuRegWrite s r d = { s with ppu := (ppuRegWrite s r d).ppu, chrRam := (ppuRegWrite s r d).chrRam } := by
  have hw : ∀ a, ppuWrite s a d = { s with ppu := (ppuWrite s a d).ppu, chrRam := (ppuWrite s a d).chrRam } := by
    intro a
    unfold ppuWrite
    dsimp only
    split
    · split <;> rfl
    · split <;> rfl
  unfold ppuRegWrite
  split
  · rfl
  · rfl
  · rfl
  · rfl
  · rfl
  · unfold writeScroll writeScrollFirst writeScrollSecond
    dsimp only
    split <;> split <;> rfl
  · unfold writeAddr
    dsimp only
    split <;> rfl
  · unfold writePpuData
    dsimp only
    rw [hw]

/-- One byte of OAM-DMA: a bus read and a write of OAM (20_memory.md R72). -/
theorem oamDmaByte_eq (page : Byte) (s : State) (i : Nat) :
    oamDmaByte page s i = { (memRead s (word page (BitVec.ofNat 8 i))).state with
      ppu := { (memRead s (word page (BitVec.ofNat 8 i))).state.ppu with
        oam := s.ppu.oam.write ((s.ppu.oamaddr.toNat + i) % 256) (memRead s (word page (BitVec.ofNat 8 i))).value } } := by
  simp [oamDmaByte, (memRead_effects s (word page (BitVec.ofNat 8 i))).oam]

/-- What OAM-DMA leaves alone: everything but OAM and the side effects of its source reads. -/
def DmaEffects (s t : State) : Prop :=
  OnlyReadEffects { s with ppu := { s.ppu with oam := t.ppu.oam } } t

theorem oamDmaByte_effects (page : Byte) (s : State) (i : Nat) : DmaEffects s (oamDmaByte page s i) := by
  have h := memRead_effects s (word page (BitVec.ofNat 8 i))
  unfold DmaEffects OnlyReadEffects at *
  unfold oamDmaByte
  dsimp only
  rw [h]

theorem DmaEffects.trans {s t u : State} (h : DmaEffects s t) (k : DmaEffects t u) : DmaEffects s u := by
  unfold DmaEffects OnlyReadEffects at *
  rw [h] at k
  exact k

theorem foldl_oamDma_effects (page : Byte) (l : List Nat) (s : State) : DmaEffects s (l.foldl (oamDmaByte page) s) := by
  induction l generalizing s with
  | nil => rfl
  | cons i rest ih => exact (oamDmaByte_effects page s i).trans (ih _)

/-- OAM-DMA's copy changes OAM, and what its source reads' side effects touch. -/
theorem oamDmaCopy_effects (page : Byte) (s : State) : DmaEffects s (oamDmaCopy page s) := foldl_oamDma_effects page _ s

theorem DmaEffects.registers {s t : State} (h : DmaEffects s t) : OnlyRegisterState s.ppu t.ppu := by
  unfold DmaEffects OnlyReadEffects at h
  unfold OnlyRegisterState
  rw [h]

/-- What a bus write leaves alone (20_memory.md R62): the configuration, the live buttons, the clock, the host's script, and
every CPU register but the debt. -/
theorem memWrite_frame (s : State) (a : Word) (v : Byte) :
    (memWrite s a v).config = s.config ∧ (memWrite s a v).buttons = s.buttons ∧ (memWrite s a v).sysclk = s.sysclk ∧
      (memWrite s a v).hostScript = s.hostScript ∧
        (memWrite s a v).cpu = { s.cpu with debt := (memWrite s a v).cpu.debt } := by
  unfold memWrite
  split
  · exact ⟨rfl, rfl, rfl, rfl, rfl⟩
  · split
    · rw [ppuRegWrite_outside]
      exact ⟨rfl, rfl, rfl, rfl, rfl⟩
    · split
      · have h := oamDmaCopy_effects v s
        unfold oamDma
        dsimp only
        refine ⟨h.config, h.buttons, h.sysclk, h.hostScript, ?_⟩
        rw [h.cpu]
      · split
        · unfold controllerWrite
          split <;> exact ⟨rfl, rfl, rfl, rfl, rfl⟩
        · unfold mapperCpuWrite
          split
          · exact ⟨rfl, rfl, rfl, rfl, rfl⟩
          · split <;> exact ⟨rfl, rfl, rfl, rfl, rfl⟩

/-- A bus write changes the PPU only where register accesses may (47_ppu_registers.md R277). -/
theorem memWrite_registers (s : State) (a : Word) (v : Byte) : OnlyRegisterState s.ppu (memWrite s a v).ppu := by
  unfold memWrite
  split
  · rfl
  · split
    · exact ppuRegWrite_registers s _ v
    · split
      · exact (oamDmaCopy_effects v s).registers
      · split
        · unfold controllerWrite
          split <;> rfl
        · unfold mapperCpuWrite
          split
          · rfl
          · split <;> rfl

/-! ## The invariant -/

theorem OnlyRegisterState.inv {p q : Ppu} (h : OnlyRegisterState p q) (hp : p.Inv) (ho : q.oam.wfIn 256 = true)
    (hn : q.nt.wfIn 2048 = true) (hl : q.pal.wfIn 32 = true) : q.Inv := by
  rw [h]
  exact ⟨ho, hp.soam, hn, hl, hp.framebuffer, hp.slots, hp.cycle, hp.scanlineLow, hp.scanlineHigh, hp.found, hp.scan, hp.copy⟩

theorem nametableIndex_lt (m : Mirroring) (a : Word) : nametableIndex m a < 2048 := by
  have h : ∀ n, bitNat a n ≤ 1 := fun n => Bool.toNat_le _
  unfold nametableIndex
  dsimp only
  cases m
  · have := h 11
    dsimp only
    omega
  · have := h 10
    dsimp only
    omega

theorem paletteIndex_lt (a : Word) : paletteIndex a < 32 := by
  unfold paletteIndex
  dsimp only
  split
  · simp only [BitVec.toNat_and, BitVec.toNat_ofNat]
    exact Nat.lt_of_le_of_lt Nat.and_le_right (by decide)
  · simp only [BitVec.toNat_and, BitVec.toNat_ofNat]
    exact Nat.lt_of_le_of_lt Nat.and_le_right (by decide)

theorem ppuWrite_inv (s : State) (a : Word) (d : Byte) (h : s.Inv) : (ppuWrite s a d).Inv := by
  unfold ppuWrite
  dsimp only
  split
  · split
    · exact ⟨h.ppu, h.ram, h.unmapped, h.prgRam, Memory.wfIn_write _ _ _ _ h.chrRam (by omega)⟩
    · exact h
  · split
    · exact ⟨OnlyRegisterState.inv rfl h.ppu h.ppu.oam (Memory.wfIn_write _ _ _ _ h.ppu.nt (nametableIndex_lt _ _)) h.ppu.pal,
        h.ram, h.unmapped, h.prgRam, h.chrRam⟩
    · exact ⟨OnlyRegisterState.inv rfl h.ppu h.ppu.oam h.ppu.nt (Memory.wfIn_write _ _ _ _ h.ppu.pal (paletteIndex_lt _)),
        h.ram, h.unmapped, h.prgRam, h.chrRam⟩

theorem ppuRegWrite_inv (s : State) (r : BitVec 3) (d : Byte) (h : s.Inv) : (ppuRegWrite s r d).Inv := by
  have hr := ppuRegWrite_registers s r d
  have key : (ppuRegWrite s r d).ppu.oam.wfIn 256 = true ∧ (ppuRegWrite s r d).ppu.nt.wfIn 2048 = true ∧
      (ppuRegWrite s r d).ppu.pal.wfIn 32 = true ∧ (ppuRegWrite s r d).chrRam.wfIn 8192 = true := by
    unfold ppuRegWrite
    split
    · exact ⟨h.ppu.oam, h.ppu.nt, h.ppu.pal, h.chrRam⟩
    · exact ⟨h.ppu.oam, h.ppu.nt, h.ppu.pal, h.chrRam⟩
    · exact ⟨h.ppu.oam, h.ppu.nt, h.ppu.pal, h.chrRam⟩
    · exact ⟨h.ppu.oam, h.ppu.nt, h.ppu.pal, h.chrRam⟩
    · exact ⟨Memory.wfIn_write _ _ _ _ h.ppu.oam s.ppu.oamaddr.isLt, h.ppu.nt, h.ppu.pal, h.chrRam⟩
    · unfold writeScroll writeScrollFirst writeScrollSecond
      dsimp only
      split <;> split <;> exact ⟨h.ppu.oam, h.ppu.nt, h.ppu.pal, h.chrRam⟩
    · unfold writeAddr
      dsimp only
      split <;> exact ⟨h.ppu.oam, h.ppu.nt, h.ppu.pal, h.chrRam⟩
    · have k := ppuWrite_inv s (s.ppu.v &&& 0x3FFF#16) d h
      exact ⟨k.ppu.oam, k.ppu.nt, k.ppu.pal, k.chrRam⟩
  have ho := ppuRegWrite_outside s r d
  refine ⟨hr.inv h.ppu key.1 key.2.1 key.2.2.1, ?_, ?_, ?_, key.2.2.2⟩
  · rw [ho]
    exact h.ram
  · rw [ho]
    exact h.unmapped
  · rw [ho]
    exact h.prgRam

theorem oamDmaByte_inv (page : Byte) (s : State) (i : Nat) (h : s.Inv) : (oamDmaByte page s i).Inv := by
  have k := (memRead_effects s (word page (BitVec.ofNat 8 i))).inv h
  unfold oamDmaByte
  dsimp only
  exact ⟨OnlyRegisterState.inv rfl k.ppu (Memory.wfIn_write _ _ _ _ k.ppu.oam (Nat.mod_lt _ (by decide))) k.ppu.nt k.ppu.pal,
    k.ram, k.unmapped, k.prgRam, k.chrRam⟩

theorem oamDmaCopy_inv (page : Byte) (s : State) (h : s.Inv) : (oamDmaCopy page s).Inv := by
  unfold oamDmaCopy
  generalize List.range 256 = l
  induction l generalizing s with
  | nil => exact h
  | cons i rest ih => exact ih _ (oamDmaByte_inv page s i h)

/-- A bus write keeps the invariant. -/
theorem memWrite_inv (s : State) (a : Word) (v : Byte) (h : s.Inv) : (memWrite s a v).Inv := by
  unfold memWrite
  split
  · exact ⟨h.ppu, Memory.wfIn_write _ _ _ _ h.ram (Nat.mod_lt _ (by decide)), h.unmapped, h.prgRam, h.chrRam⟩
  · split
    · exact ppuRegWrite_inv s _ v h
    · split
      · have k := oamDmaCopy_inv v s h
        exact ⟨k.ppu, k.ram, k.unmapped, k.prgRam, k.chrRam⟩
      · split
        · unfold controllerWrite
          split <;> exact ⟨h.ppu, h.ram, h.unmapped, h.prgRam, h.chrRam⟩
        · unfold mapperCpuWrite
          split
          · exact h
          · split
            · rename_i hp
              simp only [inPrgRam, Bool.and_eq_true, decide_eq_true_eq] at hp
              exact ⟨h.ppu, h.ram, h.unmapped, Memory.wfIn_write _ _ _ _ h.prgRam (by omega), h.chrRam⟩
            · exact ⟨h.ppu, h.ram, Memory.wfIn_write _ _ _ _ h.unmapped a.isLt, h.prgRam, h.chrRam⟩

/-- The invariant speaks of memories and the PPU alone. -/
theorem State.Inv.congr {s t : State} (h : s.Inv) (hp : t.ppu = s.ppu) (hr : t.ram = s.ram) (hu : t.unmapped = s.unmapped)
    (hg : t.prgRam = s.prgRam) (hc : t.chrRam = s.chrRam) : t.Inv :=
  ⟨hp ▸ h.ppu, hr ▸ h.ram, hu ▸ h.unmapped, hg ▸ h.prgRam, hc ▸ h.chrRam⟩

end Sys2Proof.Machine
end

