-- ==== Sys2Proof/Laws/Boot.lean ====
section
/-! SUPPORT. The reset state is a launch state (70_reset_and_hazards.md R380, R381). -/

namespace Sys2Proof.Machine

/-- `State.reset` is what power-on and `cpu_reset` give, with the placeholder configuration and nothing listed. -/
theorem reset_eq_launch : State.reset = launch Config.placeholder emptyMemory := by decide

end Sys2Proof.Machine
end

