-- ==== Sys2Proof/Laws/Bus.lean ====
section
/-! SUPPORT. The bus and the CPU's registers are independent, and which bytes a bus write stores to (20_memory.md R61, R62). -/

namespace Sys2Proof.Machine

/-! ## The CPU's registers do not matter to the bus -/

theorem memRead_withCpu (s : State) (c : Cpu) (a : Word) :
    memRead { s with cpu := c } a = { value := (memRead s a).value, state := { (memRead s a).state with cpu := c } } := by
  unfold memRead
  dsimp only
  split
  · rfl
  · split
    · unfold ppuRegRead
      split <;> rfl
    · split <;> rfl

theorem oamDmaByte_withCpu (page : Byte) (s : State) (c : Cpu) (i : Nat) :
    oamDmaByte page { s with cpu := c } i = { oamDmaByte page s i with cpu := c } := by
  simp only [oamDmaByte, memRead_withCpu]

theorem oamDmaCopy_withCpu (page : Byte) (s : State) (c : Cpu) :
    oamDmaCopy page { s with cpu := c } = { oamDmaCopy page s with cpu := c } := by
  unfold oamDmaCopy
  generalize List.range 256 = l
  induction l generalizing s with
  | nil => rfl
  | cons i rest ih => simp only [List.foldl_cons, oamDmaByte_withCpu, ih]

theorem ppuWrite_withCpu (s : State) (c : Cpu) (a : Word) (v : Byte) :
    ppuWrite { s with cpu := c } a v = { ppuWrite s a v with cpu := c } := by
  unfold ppuWrite
  dsimp only
  split
  · split <;> rfl
  · split <;> rfl

theorem ppuRegWrite_withCpu (s : State) (c : Cpu) (r : BitVec 3) (v : Byte) :
    ppuRegWrite { s with cpu := c } r v = { ppuRegWrite s r v with cpu := c } := by
  unfold ppuRegWrite
  split
  · rfl
  · rfl
  · rfl
  · rfl
  · rfl
  · unfold writeScroll writeScrollFirst writeScrollSecond
    dsimp only
    split <;> split <;> rfl
  · unfold writeAddr
    dsimp only
    split <;> rfl
  · unfold writePpuData
    dsimp only
    rw [ppuWrite_withCpu]

theorem ne_dma_of_toNat {a : Word} (h : a.toNat ≤ 0x3FFF) : a ≠ 0x4014#16 := by
  rintro rfl
  simp at h

theorem memWrite_withCpu (s : State) (c : Cpu) (a : Word) (v : Byte) :
    memWrite { s with cpu := c } a v =
      { memWrite s a v with cpu := { c with debt := c.debt + dmaStall s.sysclk a } } := by
  unfold memWrite
  dsimp only
  split
  · rename_i h
    simp [dmaStall, ne_dma_of_toNat (Nat.le_trans h (by decide))]
  · split
    · rename_i h
      simp only [dmaStall, ne_dma_of_toNat h, if_false, Nat.add_zero, ppuRegWrite_withCpu]
    · split
      · rename_i h
        simp only [oamDma, oamDmaCopy_withCpu, dmaStall, h, if_true, oamDmaCost]
        rw [(oamDmaCopy_effects v s).sysclk]
      · rename_i h
        simp only [dmaStall, h, if_false, Nat.add_zero]
        split
        · unfold controllerWrite
          split <;> rfl
        · unfold mapperCpuWrite
          dsimp only
          split
          · rfl
          · split <;> rfl

/-- Of the CPU's registers a bus write changes the debt alone (20_memory.md R72). -/
theorem memWrite_cpu (s : State) (a : Word) (v : Byte) :
    (memWrite s a v).cpu = { s.cpu with debt := s.cpu.debt + dmaStall s.sysclk a } :=
  congrArg State.cpu (memWrite_withCpu s s.cpu a v)

/-! ## The bytes a bus write stores to -/

theorem byteAt_putByte_other (s : State) (m k : Store) (n j : Nat) (v : Byte) (h : ¬(k = m ∧ j = n)) :
    byteAt (putByte s m n v) k j = byteAt s k j := by
  by_cases hk : k = m
  · subst hk
    have hj : j ≠ n := fun e => h ⟨rfl, e⟩
    cases k <;> exact Memory.read_write_other _ _ _ _ hj
  · cases m <;> cases k <;> first | rfl | exact absurd rfl hk

theorem State.Inv.store_wf {s : State} (h : s.Inv) (m : Store) : (storeOf s m).wf = true := by
  cases m
  · exact Memory.wf_of_wfIn _ _ h.ram
  · exact Memory.wf_of_wfIn _ _ h.unmapped
  · exact Memory.wf_of_wfIn _ _ h.prgRam
  · exact Memory.wf_of_wfIn _ _ h.chrRam
  · exact Memory.wf_of_wfIn _ _ h.ppu.oam
  · exact Memory.wf_of_wfIn _ _ h.ppu.soam
  · exact Memory.wf_of_wfIn _ _ h.ppu.nt
  · exact Memory.wf_of_wfIn _ _ h.ppu.pal

theorem byteAt_putByte_same (s : State) (m : Store) (n : Nat) (v : Byte) (h : s.Inv) : byteAt (putByte s m n v) m n = v := by
  have k := Memory.read_write_same _ (h.store_wf m) n v
  cases m <;> exact k

/-- Outside the PPU window, $4014 and $4016 a write stores the byte the address map names, or nothing (20_memory.md R62). -/
theorem memWrite_plain (s : State) (a : Word) (v : Byte) (hw : ¬(0x2000 ≤ a.toNat ∧ a.toNat ≤ 0x3FFF)) (hd : a ≠ 0x4014#16)
    (hc : a ≠ 0x4016#16) :
    memWrite s a v = match cpuCell s.config a with
      | some (m, n) => putByte s m n v
      | none => s := by
  unfold memWrite cpuCell
  by_cases h1 : a.toNat ≤ 0x1FFF
  · simp [h1, putByte, ramIndex]
  · have h2 : ¬a.toNat ≤ 0x3FFF := by omega
    simp only [h1, h2, hd, hc, if_false, mapperCpuWrite, inPrgRam]
    by_cases h3 : 0x8000 ≤ a.toNat
    · simp [h3]
    · have h4 : a.toNat < 0x8000 := by omega
      by_cases h5 : s.config.mapper = .mapper1 ∧ 0x6000 ≤ a.toNat
      · simp [h3, h4, h5, putByte]
      · by_cases h6 : s.config.mapper = .mapper1
        · have h7 : ¬0x6000 ≤ a.toNat := fun e => h5 ⟨h6, e⟩
          simp [h3, h4, h6, h7, putByte]
        · simp [h3, h4, h6, putByte]

theorem and_low14_toNat (a : Word) : (a &&& 0x3FFF#16).toNat = a.toNat % 16384 := by
  simp only [BitVec.toNat_and, BitVec.toNat_ofNat]
  exact Nat.and_two_pow_sub_one_eq_mod a.toNat 14

theorem bitNat_eq {w : Nat} (v : BitVec w) (n : Nat) : bitNat v n = v.toNat / 2 ^ n % 2 := by
  simp only [bitNat, BitVec.getLsbD, Nat.testBit_eq_decide_div_mod_eq]
  have := Nat.mod_two_eq_zero_or_one (v.toNat / 2 ^ n)
  rcases this with h | h <;> simp [h]

theorem paletteIndex_eq (a : Word) :
    paletteIndex a = if a.toNat % 32 = 16 ∨ a.toNat % 32 = 20 ∨ a.toNat % 32 = 24 ∨ a.toNat % 32 = 28 then a.toNat % 32 - 16
      else a.toNat % 32 := by
  have h : a &&& 0x1F#16 = BitVec.ofNat 16 (a.toNat % 32) := by
    apply BitVec.eq_of_toNat_eq
    simp only [BitVec.toNat_and, BitVec.toNat_ofNat]
    rw [show (31 % 2 ^ 16) = 2 ^ 5 - 1 from rfl, Nat.and_two_pow_sub_one_eq_mod]
    omega
  have key : ∀ n < 32, (if BitVec.ofNat 16 n &&& 0x13#16 = 0x10#16 then (BitVec.ofNat 16 n &&& 0x0F#16).toNat
      else (BitVec.ofNat 16 n).toNat) = if n = 16 ∨ n = 20 ∨ n = 24 ∨ n = 28 then n - 16 else n := by decide
  unfold paletteIndex
  dsimp only
  rw [h]
  exact key _ (Nat.mod_lt _ (by decide))

/-- `PpuRead` reads the byte behind the address (20_memory.md R80). -/
theorem ppuRead_cell (s : State) (a : Word) : ppuRead s.config s.chrRam s.ppu a = match ppuCell s.config a with
    | some (.palette, n) => byteAt s .palette n &&& paletteMask s.ppu
    | some (m, n) => byteAt s m n
    | none => s.config.chrRom.read (a.toNat % 16384) := by
  have hm : a.toNat % 16384 % 1024 = a.toNat % 1024 := by omega
  have hp : a.toNat % 16384 % 32 = a.toNat % 32 := by omega
  unfold ppuRead ppuCell
  simp only [and_low14_toNat, chrRead, nametableIndex, bitNat_eq, paletteIndex_eq]
  by_cases h1 : a.toNat % 16384 ≤ 0x1FFF
  · by_cases h2 : s.config.chrBanks = 0 <;> simp [h1, h2, byteAt, storeOf]
  · by_cases h3 : a.toNat % 16384 ≤ 0x3EFF
    · cases h4 : s.config.mirroring <;> simp [h1, h3, byteAt, storeOf]
    · simp only [h1, h3, if_false, hp]
      split <;> rfl

/-- `PpuWrite` writes the byte behind the address, if any (20_memory.md R81). -/
theorem ppuWrite_cell (s : State) (a : Word) (d : Byte) : ppuWrite s a d = match ppuCell s.config a with
    | some (m, n) => putByte s m n d
    | none => s := by
  have hp : a.toNat % 16384 % 32 = a.toNat % 32 := by omega
  unfold ppuWrite ppuCell
  simp only [and_low14_toNat, nametableIndex, bitNat_eq, paletteIndex_eq]
  by_cases h1 : a.toNat % 16384 ≤ 0x1FFF
  · by_cases h2 : s.config.chrBanks = 0 <;> simp [h1, h2, putByte]
  · by_cases h3 : a.toNat % 16384 ≤ 0x3EFF
    · cases h4 : s.config.mirroring <;> simp [h1, h3, putByte]
    · simp only [h1, h3, if_false, hp]
      split <;> rfl

theorem oamDmaByte_other (page : Byte) (s : State) (i : Nat) (m : Store) (n : Nat) (h : ¬(m = .oam ∧ n < 256)) :
    byteAt (oamDmaByte page s i) m n = byteAt s m n := by
  have hb := (memRead_effects s (word page (BitVec.ofNat 8 i))).sameBytes
  have hlt : (s.ppu.oamaddr.toNat + i) % 256 < 256 := Nat.mod_lt _ (by decide)
  have hne : ¬(m = .oam ∧ n = (s.ppu.oamaddr.toNat + i) % 256) := by
    rintro ⟨rfl, rfl⟩
    exact h ⟨rfl, hlt⟩
  rw [← hb m n, oamDmaByte_eq, ← (memRead_effects s (word page (BitVec.ofNat 8 i))).oam]
  exact byteAt_putByte_other (memRead s (word page (BitVec.ofNat 8 i))).state .oam m _ n _ hne

theorem oamDma_other (page : Byte) (s : State) (m : Store) (n : Nat) (h : ¬(m = .oam ∧ n < 256)) :
    byteAt (oamDma s page) m n = byteAt s m n := by
  have key : ∀ (l : List Nat) (s : State), byteAt (l.foldl (oamDmaByte page) s) m n = byteAt s m n := by
    intro l
    induction l with
    | nil => intro s; rfl
    | cons i rest ih => intro s; rw [List.foldl_cons, ih, oamDmaByte_other page s i m n h]
  have step : ∀ u : State, ∀ d, byteAt { u with cpu := d } m n = byteAt u m n := by
    intro u d
    cases m <;> rfl
  unfold oamDma oamDmaCopy
  dsimp only
  rw [step, key]

theorem setWidth3_toNat (a : Word) : (a.setWidth 3).toNat = a.toNat % 8 := by simp

/-- A bus write keeps every byte it does not store to (20_memory.md R62). -/
theorem memWrite_other (s : State) (a : Word) (v : Byte) (m : Store) (n : Nat) (h : ¬WriteTouches s a m n) :
    byteAt (memWrite s a v) m n = byteAt s m n := by
  unfold WriteTouches at h
  by_cases hw : 0x2000 ≤ a.toNat ∧ a.toNat ≤ 0x3FFF
  · have h1 : ¬a.toNat ≤ 0x1FFF := by omega
    simp only [hw, and_self, if_true, not_or] at h
    simp only [memWrite, h1, hw.2, if_false, if_true, ppuRegWrite, setWidth3_toNat]
    split
    · cases m <;> rfl
    · cases m <;> rfl
    · rfl
    · cases m <;> rfl
    · rename_i h4
      have hne : ¬(m = .oam ∧ n = s.ppu.oamaddr.toNat) := fun e => h.1 ⟨h4, e⟩
      rw [← byteAt_putByte_other s .oam m _ n v hne]
      cases m <;> rfl
    · unfold writeScroll writeScrollFirst writeScrollSecond
      dsimp only
      split <;> split <;> cases m <;> rfl
    · unfold writeAddr
      dsimp only
      split <;> cases m <;> rfl
    · rename_i n0 n1 n2 n3 n4 n5 n6
      have h7 : a.toNat % 8 = 7 := by
        have m0 : ¬a.toNat % 8 = 0 := n0
        have m1 : ¬a.toNat % 8 = 1 := n1
        have m2 : ¬a.toNat % 8 = 2 := n2
        have m3 : ¬a.toNat % 8 = 3 := n3
        have m4 : ¬a.toNat % 8 = 4 := n4
        have m5 : ¬a.toNat % 8 = 5 := n5
        have m6 : ¬a.toNat % 8 = 6 := n6
        omega
      have hne : ¬ppuCell s.config s.ppu.v = some (m, n) := fun e => h.2 ⟨h7, e⟩
      have hv : ppuCell s.config (s.ppu.v &&& 0x3FFF#16) = ppuCell s.config s.ppu.v := by
        unfold ppuCell
        rw [and_low14_toNat, Nat.mod_mod]
      have step : byteAt (writePpuData s v) m n = byteAt (ppuWrite s (s.ppu.v &&& 0x3FFF#16) v) m n := by
        cases m <;> rfl
      rw [step, ppuWrite_cell, hv]
      split
      · rename_i k j hk
        refine byteAt_putByte_other s k m j n v ?_
        rintro ⟨rfl, rfl⟩
        exact hne hk
      · rfl
  · simp only [hw, if_false] at h
    by_cases hd : a = 0x4014#16
    · subst hd
      exact oamDma_other v s m n h
    · simp only [hd, if_false] at h
      by_cases hc : a = 0x4016#16
      · subst hc
        simp only [memWrite, controllerWrite]
        simp
        split <;> cases m <;> rfl
      · rw [memWrite_plain s a v hw hd hc]
        split
        · rename_i k j hk
          refine byteAt_putByte_other s k m j n v ?_
          rintro ⟨rfl, rfl⟩
          exact h hk
        · rfl

theorem cpuCell_plain {c : Config} {a : Word} {k : Store} {n : Nat} (h : cpuCell c a = some (k, n)) :
    ¬(0x2000 ≤ a.toNat ∧ a.toNat ≤ 0x3FFF) ∧ a ≠ 0x4014#16 ∧ a ≠ 0x4016#16 := by
  unfold cpuCell at h
  split at h
  · rename_i h1
    exact ⟨by omega, ne_dma_of_toNat (by omega), by rintro rfl; simp at h1⟩
  · split at h
    · cases h
    · split at h
      · cases h
      · split at h
        · cases h
        · exact ⟨by omega, by assumption, by assumption⟩

/-- A byte of plain memory holds what is stored to it (20_memory.md R62, R63, R76, R77). -/
theorem memWrite_stored (s : State) (a : Word) (v : Byte) (k : Store) (n : Nat) (h : s.Inv) (hk : cpuCell s.config a = some (k, n)) :
    byteAt (memWrite s a v) k n = v := by
  obtain ⟨hw, hd, hc⟩ := cpuCell_plain hk
  rw [memWrite_plain s a v hw hd hc, hk]
  exact byteAt_putByte_same s k n v h

end Sys2Proof.Machine
end

