-- ==== Sys2Proof/Laws/Operands.lean ====
section
/-! SUPPORT. What the addressing modes and an operand read leave behind, and the pointers they read (40_addressing_modes.md). -/

namespace Sys2Proof.Machine

theorem readPointer_effects (s : State) (pl ph : Word) : OnlyReadEffects s (readPointer s pl ph).state :=
  (memRead_effects s pl).trans (memRead_effects _ ph)

/-- Computing an address leaves nothing but the side effects of its pointer reads. -/
theorem address_effects (m : MemOperand) (s : State) : OnlyReadEffects s (address m s).state := by
  cases m
  case ind w => exact readPointer_effects s _ _
  case izx z => exact readPointer_effects s _ _
  case izy z => exact readPointer_effects s _ _
  all_goals exact OnlyReadEffects.refl s

/-- Reading an operand leaves nothing but the side effects of its bus reads. -/
theorem readOperand_effects (o : Operand) (s : State) : OnlyReadEffects s (readOperand o s).state := by
  cases o
  case mem m => exact (address_effects m s).trans (memRead_effects _ _)
  all_goals exact OnlyReadEffects.refl s

@[simp] theorem address_cpu (m : MemOperand) (s : State) : (address m s).state.cpu = s.cpu := (address_effects m s).cpu
@[simp] theorem readOperand_cpu (o : Operand) (s : State) : (readOperand o s).state.cpu = s.cpu := (readOperand_effects o s).cpu

/-- A pointer in the zero page is read from RAM, without side effects (40_addressing_modes.md R139, R140). -/
theorem readPointer_zeroPage (s : State) (l h : Byte) :
    readPointer s (zext16 l) (zext16 h) =
      { ea := word (byteAt s .ram h.toNat) (byteAt s .ram l.toNat), cross := false, state := s } := by
  have key : ∀ b : Byte, memRead s (zext16 b) = { value := byteAt s .ram b.toNat, state := s } := by
    intro b
    have hb := b.isLt
    have h1 : (zext16 b).toNat ≤ 0x1FFF := by
      rw [zext16_toNat]
      omega
    rw [memRead_plain s _ (Or.inl h1)]
    rw [plainByte, if_pos h1, zext16_toNat, Nat.mod_eq_of_lt (by omega)]
  simp only [readPointer, key]

theorem hi_toNat (w : Word) : (hi w).toNat = w.toNat / 256 := by
  have := w.isLt
  simp only [hi, BitVec.extractLsb'_toNat, Nat.shiftRight_eq_div_pow]
  omega

theorem lo_toNat (w : Word) : (lo w).toNat = w.toNat % 256 := by
  simp only [lo, BitVec.extractLsb'_toNat, Nat.shiftRight_zero]

/-- Whether an address leaves a page, in numbers (40_addressing_modes.md R140 to R143). -/
theorem pageCross_eq (a b : Word) : pageCross a b = decide (a.toNat / 256 ≠ b.toNat / 256) := by
  have : (hi a = hi b) ↔ a.toNat / 256 = b.toNat / 256 := by
    rw [← hi_toNat, ← hi_toNat, BitVec.toNat_inj]
  simp only [pageCross, bne, beq_eq_decide, this, ne_eq, decide_not]

theorem indexed_toNat (base : Word) (index : Byte) (s : State) :
    (indexed base index s).ea.toNat = (base.toNat + index.toNat) % 65536 := by
  simp [indexed, BitVec.toNat_add]

end Sys2Proof.Machine
end

