-- ==== Sys2Proof/Laws/Flags.lean ====
section
/-! SUPPORT. What each flag computation does to the flag byte, once per computation. -/

namespace Sys2Proof.Machine

theorem setZN_flags (p v : Byte) : ZNFrom p (setZN p v) v := by
  refine ⟨by simp [flagZ], by simp [flagN], fun k hk => ?_⟩
  fin_cases hk <;> simp

theorem compareFlags_flags (p reg m : Byte) :
    flagC (compareFlags p reg m) = decide (m.toNat ≤ reg.toNat) ∧ flagZ (compareFlags p reg m) = decide (reg = m) ∧
      flagN (compareFlags p reg m) = (reg - m).getLsbD 7 ∧ SameFlags [2, 3, 4, 5, 6] p (compareFlags p reg m) := by
  refine ⟨by simp [compareFlags, flagC], by simp [compareFlags, flagZ, beq_eq_decide], by simp [compareFlags, flagN], fun k hk => ?_⟩
  fin_cases hk <;> simp [compareFlags]

theorem bitFlags_flags (p a m : Byte) :
    flagZ (bitFlags p a m) = decide (a &&& m = 0#8) ∧ flagN (bitFlags p a m) = m.getLsbD 7 ∧
      flagV (bitFlags p a m) = m.getLsbD 6 ∧ SameFlags [0, 2, 3, 4, 5] p (bitFlags p a m) := by
  refine ⟨by simp [bitFlags, flagZ, beq_eq_decide], by simp [bitFlags, flagN], by simp [bitFlags, flagV], fun k hk => ?_⟩
  fin_cases hk <;> simp [bitFlags]

/-- The overflow of an addition in terms of the three sign bits. -/
theorem addOverflow_signs (a m r : Byte) :
    addOverflow a m r = (a.getLsbD 7 == m.getLsbD 7 && r.getLsbD 7 != a.getLsbD 7) := by
  have masked : ((a ^^^ r) &&& (m ^^^ r) &&& 0x80#8) =
      if (a.getLsbD 7 == m.getLsbD 7 && r.getLsbD 7 != a.getLsbD 7) then 0x80#8 else 0#8 := by
    apply BitVec.eq_of_getLsbD_eq
    intro k hk
    rw [BitVec.getLsbD_and, BitVec.getLsbD_and, BitVec.getLsbD_xor, BitVec.getLsbD_xor]
    generalize ha : a.getLsbD 7 = x
    generalize hb : m.getLsbD 7 = y
    generalize hc : r.getLsbD 7 = z
    obtain h7 | rfl : k < 7 ∨ k = 7 := by omega
    · interval_cases k <;> split <;> simp
    · rw [ha, hb, hc]; clear ha hb hc; revert x y z; decide
  rw [addOverflow, masked]
  cases (a.getLsbD 7 == m.getLsbD 7 && r.getLsbD 7 != a.getLsbD 7) <;> decide

theorem addFlags_flags (p a m : Byte) (c : Bool) :
    flagC (addFlags p a m c) = decide (0xFF < addSum a m c) ∧
      flagV (addFlags p a m c) = (a.getLsbD 7 == m.getLsbD 7 && (addResult a m c).getLsbD 7 != a.getLsbD 7) ∧
        flagZ (addFlags p a m c) = decide (addResult a m c = 0#8) ∧ flagN (addFlags p a m c) = (addResult a m c).getLsbD 7 ∧
          SameFlags [2, 3, 4, 5] p (addFlags p a m c) := by
  refine ⟨by simp [addFlags, flagC, addCarry], by simp [addFlags, flagV, addOverflow_signs], by simp [addFlags, flagZ],
    by simp [addFlags, flagN], fun k hk => ?_⟩
  fin_cases hk <;> simp [addFlags]

theorem pushedBySoftware_flags (p : Byte) : PushedFlags p (pushedBySoftware p) true := by
  refine ⟨by simp [pushedBySoftware], by simp [pushedBySoftware], fun k hk => ?_⟩
  fin_cases hk <;> simp [pushedBySoftware]

theorem pushedByInterrupt_flags (p : Byte) : PushedFlags p (pushedByInterrupt p) false := by
  refine ⟨by simp [pushedByInterrupt], by simp [pushedByInterrupt], fun k hk => ?_⟩
  fin_cases hk <;> simp [pushedByInterrupt]

theorem plpFlags_flags (p b : Byte) : SameFlags [0, 1, 2, 3, 6, 7] b (plpFlags p b) ∧ SameFlags [4, 5] p (plpFlags p b) := by
  refine ⟨fun k hk => ?_, fun k hk => ?_⟩ <;> fin_cases hk <;> simp [plpFlags]

theorem rtiFlags_flags (b : Byte) :
    SameFlags [0, 1, 2, 3, 6, 7] b (rtiFlags b) ∧ (rtiFlags b).getLsbD 4 = false ∧ (rtiFlags b).getLsbD 5 = false := by
  refine ⟨fun k hk => ?_, by simp [rtiFlags], by simp [rtiFlags]⟩
  fin_cases hk <;> simp [rtiFlags]

theorem setBit_flags (p : Byte) (k : Nat) (on : Bool) (hk : k < 8) :
    (setBit p k on).getLsbD k = on ∧ SameFlags ((List.range 8).filter (· ≠ k)) p (setBit p k on) := by
  refine ⟨by rw [getLsbD_setBit _ _ _ _ hk]; simp, fun j hj => ?_⟩
  simp at hj
  rw [getLsbD_setBit _ _ _ _ hk]
  simp [hj]

theorem setI_flags (p : Byte) : flagI (setI p true) = true ∧ SameFlags [0, 1, 3, 4, 5, 6, 7] p (setI p true) := by
  refine ⟨by simp [flagI], fun k hk => ?_⟩
  fin_cases hk <;> simp

end Sys2Proof.Machine
end

