-- ==== Sys2Proof/Laws/Stack.lean ====
section
/-! SUPPORT. What pushes, exception entry and the return from one do, once per operation. -/

namespace Sys2Proof.Machine

/-- The CPU's registers are no part of memory. -/
theorem byteAt_withCpu (s : State) (c : Cpu) (m : Store) (n : Nat) : byteAt { s with cpu := c } m n = byteAt s m n := by
  cases m <;> rfl

theorem OnlyPushed.withCpu {s t : State} {l : List Byte} (c : Cpu) (h : OnlyPushed s t l) : OnlyPushed s { t with cpu := c } l := by
  obtain ⟨frame, other, stored⟩ := h
  refine ⟨by rw [frame], fun m n hm => ?_, fun inv k b hk => ?_⟩ <;> rw [byteAt_withCpu]
  · exact other m n hm
  · exact stored inv k b hk

theorem push8_inv (s : State) (v : Byte) (h : s.Inv) : (push8 s v).Inv := by
  have hw := memWrite_inv s (stackAddress s.cpu.sp) v h
  exact ⟨hw.ppu, hw.ram, hw.unmapped, hw.prgRam, hw.chrRam⟩

theorem byteAt_push8 (s : State) (v : Byte) (m : Store) (n : Nat) :
    byteAt (push8 s v) m n = byteAt (putByte s .ram (256 + s.cpu.sp.toNat) v) m n := by
  rw [push8_eq]; cases m <;> rfl

theorem OnlyPushed.nil (s : State) : OnlyPushed s s [] := ⟨rfl, fun _ _ _ => rfl, fun _ k b hk => by simp at hk⟩

/-- One push more. -/
theorem OnlyPushed.push {s t : State} {l : List Byte} (v : Byte) (h : OnlyPushed s t l)
    (hsp : t.cpu.sp = s.cpu.sp - BitVec.ofNat 8 l.length) (hl : l.length < 256) (hinv : s.Inv → t.Inv) :
    OnlyPushed s (push8 t v) (l ++ [v]) := by
  obtain ⟨frame, other, stored⟩ := h
  refine ⟨by rw [push8_eq, frame], fun m n hm => ?_, fun inv k b hk => ?_⟩
  · rw [byteAt_push8, byteAt_putByte_other]
    · refine other m n ?_
      rintro ⟨rfl, k, hk, rfl⟩
      exact hm ⟨rfl, k, by simp; omega, rfl⟩
    · rintro ⟨rfl, rfl⟩
      exact hm ⟨rfl, l.length, by simp, by rw [hsp]⟩
  · rw [byteAt_push8]
    rcases Nat.lt_trichotomy k l.length with hlt | rfl | hgt
    · rw [byteAt_putByte_other]
      · exact stored inv k b (by rwa [List.getElem?_append_left hlt] at hk)
      · rintro ⟨-, e⟩
        rw [hsp] at e
        have same : (s.cpu.sp - BitVec.ofNat 8 k).toNat = (s.cpu.sp - BitVec.ofNat 8 l.length).toNat := by omega
        have := s.cpu.sp.isLt
        simp only [BitVec.toNat_sub, BitVec.toNat_ofNat] at same
        omega
    · simp at hk
      subst hk
      rw [← hsp]
      exact byteAt_putByte_same t .ram _ v (hinv inv)
    · rw [List.getElem?_eq_none (by simp; omega)] at hk; cases hk

theorem push8_once (s : State) (a : Byte) : OnlyPushed s (push8 s a) [a] :=
  (OnlyPushed.nil s).push a (by simp) (by simp) id

theorem push8_twice (s : State) (a b : Byte) : OnlyPushed s (push8 (push8 s a) b) [a, b] :=
  (push8_once s a).push b (by rw [push8_eq]; rfl) (by simp) (push8_inv s a)

theorem push8_thrice (s : State) (a b c : Byte) : OnlyPushed s (push8 (push8 (push8 s a) b) c) [a, b, c] :=
  (push8_twice s a b).push c (by rw [push8_eq, push8_eq]; simp; bv_omega) (by simp) fun h => push8_inv _ b (push8_inv s a h)

/-- Taking an exception: the three bytes pushed, and the registers. -/
theorem enterVector_effect (s : State) (f : Byte) (vec : Word) (h : 0x8000 ≤ vec.toNat) (h' : 0x8000 ≤ (vec + 1#16).toNat) :
    OnlyPushed s (enterVector s f vec) [hi s.cpu.pc, lo s.cpu.pc, f] ∧
      (enterVector s f vec).cpu = { s.cpu with sp := s.cpu.sp - 3#8, p := setI s.cpu.p true, pc := vectorWord s vec } := by
  have e := enterVector_eq s f vec h h'
  refine ⟨?_, by rw [e]; rfl⟩
  have pushes : enterVector s f vec =
      { push8 (push8 (push8 s (hi s.cpu.pc)) (lo s.cpu.pc)) f with cpu := (enterVector s f vec).cpu } := by
    have : s.cpu.sp - 1#8 - 1#8 = s.cpu.sp - 2#8 := by bv_omega
    rw [e]; simp only [push8_eq, this]
  rw [pushes]
  exact (push8_thrice s _ _ f).withCpu _

/-- The return from an exception, in terms of the three bytes popped. -/
theorem returnFromInterrupt_eq (s : State) : returnFromInterrupt s = { s with
    cpu := { s.cpu with sp := s.cpu.sp + 3#8, p := rtiFlags (popped s 1), pc := word (popped s 3) (popped s 2) } } := by
  have e1 : s.cpu.sp + 1#8 + 1#8 = s.cpu.sp + 2#8 := by bv_omega
  have e2 : s.cpu.sp + 2#8 + 1#8 = s.cpu.sp + 3#8 := by bv_omega
  simp [returnFromInterrupt, pop8_eq, setSp, setP, setPc, e1, e2, popped, byteAt, storeOf]

end Sys2Proof.Machine
end

