-- ==== Sys2Proof/Laws/Completion.lean ====
section
/-! SUPPORT. How a meaning of each shape completes: the lemmas a statement about one instruction is closed with. -/

namespace Sys2Proof.Machine

theorem charge_eq (op : Byte) (cross taken : Bool) (s : State) :
    charge op cross taken s = { s with cpu := { s.cpu with debt := s.cpu.debt + instrCycles op cross taken } } := rfl

/-- A meaning that only changes the CPU's registers, at a fixed cost. -/
theorem completesInCpu_of {i : Instr} {cost : Nat} {post : Cpu → Cpu → Prop} {s : State} (op : Byte) (d : Cpu)
    (h : exec i s = .next (charge op false false { s with cpu := d })) (hd : d.debt = s.cpu.debt)
    (hc : instrCycles op false false = cost) (hp : post s.cpu { d with debt := s.cpu.debt + cost }) :
    CompletesInCpu i cost post s := by
  refine ⟨_, h, rfl, fun m n => by cases m <;> rfl, by simp [charge_eq, hc, hd], ?_⟩
  simpa [charge_eq, hc, hd] using hp

/-- A meaning that reads its operand and only changes the CPU's registers. -/
theorem completesReading_of {i : Instr} {o : Operand} {cost : Nat} {pg : Bool} {post : Byte → Cpu → Cpu → Prop} {s : State}
    (op : Byte) (d : Cpu)
    (h : exec i s = .next (charge op (readOperand o s).cross false { (readOperand o s).state with cpu := d }))
    (hd : d.debt = s.cpu.debt) (hc : ∀ x, instrCycles op x false = cost + (pg && x).toNat)
    (hp : post (readOperand o s).value s.cpu { d with debt := d.debt + instrCycles op (readOperand o s).cross false }) :
    CompletesReading i o cost pg post s := by
  refine ⟨_, h, rfl, readOperand_effects o s, fun m n => ?_, by simp [charge_eq, hd, hc, Nat.add_assoc], hp⟩
  rw [← (readOperand_effects o s).sameBytes m n]
  cases m <;> rfl

/-- A meaning that reads a byte of memory and writes it back, at a fixed cost. -/
theorem completesModifying_of {i : Instr} {m : MemOperand} {f : Byte → Bool → Byte} {flags : Byte → Byte → Byte → Byte → Prop}
    {cost : Nat} {s : State} (op : Byte) (newP : Byte → Byte)
    (h : exec i s = .next (
      let e := address m s
      let r := memRead e.state e.ea
      charge op e.cross false (memWrite (setP r.state (newP r.value)) e.ea (f r.value (flagC s.cpu.p)))))
    (hc : ∀ x, instrCycles op x false = cost) (hf : ∀ v, flags s.cpu.p v (f v (flagC s.cpu.p)) (newP v)) :
    CompletesModifying i m f flags cost s := by
  have hr := (address_effects m s).trans (memRead_effects (address m s).state (address m s).ea)
  refine ⟨_, h, ?_, hr, ?_, ?_, fun k n hk => ?_, fun inv k n hk => ?_⟩ <;>
    simp only [setP, memWrite_withCpu, charge_eq, byteAt_withCpu]
  · rfl
  · simp only [hc, hr.cpu, hr.sysclk]
    congr 1
    omega
  · exact hf _
  · rw [memWrite_other _ _ _ _ _ hk, hr.sameBytes k n]
  · exact memWrite_stored _ _ _ _ _ (hr.inv inv) (by rw [hr.config]; exact hk)

/-- The stores. -/
theorem completesStoring_of {i : Instr} {m : MemOperand} {v : Byte} {cost : Nat} {s : State} (op : Byte)
    (h : exec i s = .next (store op m v s)) (hc : ∀ x, instrCycles op x false = cost) : CompletesStoring i m v cost s := by
  have he := address_effects m s
  have hcpu := memWrite_cpu (address m s).state (address m s).ea v
  refine ⟨_, h, rfl, ?_, fun k n hk => ?_, fun inv k n hk => ?_⟩ <;> simp only [store, charge_eq, byteAt_withCpu]
  · simp only [hcpu, hc, he.cpu, he.sysclk]
    congr 1
    omega
  · rw [memWrite_other _ _ _ _ _ hk, he.sameBytes k n]
  · exact memWrite_stored _ _ _ _ _ (he.inv inv) (by rw [he.config]; exact hk)

end Sys2Proof.Machine
end

