-- ==== Sys2Proof/Laws/Fetch.lean ====
section
/-! SUPPORT. Fetching, and the agreement of the decoder with the bytes fetched (30_encoding.md R121, 40_addressing_modes.md R130). -/

namespace Sys2Proof.Machine

/-- A fetch in plain memory changes PC alone (40_addressing_modes.md R130). -/
theorem fetch8_plain (s : State) (h : PlainRead s.cpu.pc) :
    fetch8 s = { value := plainByte s s.cpu.pc, state := { s with cpu := { s.cpu with pc := s.cpu.pc + 1#16 } } } := by
  simp [fetch8, memRead_plain s _ h, setPc]

theorem fetch8_state (s : State) :
    (fetch8 s).state = { (memRead s s.cpu.pc).state with cpu := { s.cpu with pc := s.cpu.pc + 1#16 } } := by
  simp [fetch8, setPc]

theorem instrLength_range (op : Byte) : instrLength op = 1 ∨ instrLength op = 2 ∨ instrLength op = 3 := by
  have h : ∀ i j : Fin 16, (lengthMap.getD i.val []).getD j.val 1 = 1 ∨ (lengthMap.getD i.val []).getD j.val 1 = 2 ∨
      (lengthMap.getD i.val []).getD j.val 1 = 3 := by decide
  have hlt := op.isLt
  exact h ⟨op.toNat / 16, by omega⟩ ⟨op.toNat % 16, by omega⟩

theorem fetchBytes_length (n : Nat) (s : State) : (fetchBytes n s).bytes.length = n := by
  induction n generalizing s with
  | zero => rfl
  | succ n ih => simp [fetchBytes, ih]

/-- The bytes fetched decode, all of them, to the instruction the step runs. -/
theorem decode_fetch (s : State) : decode (fetch s).bytes = .ok (fetchedInstr (fetch s).bytes, []) := by
  have hlen := fetchBytes_length (instrLength (fetch8 s).value - 1) (fetch8 s).state
  simp only [fetch] at *
  generalize (fetchBytes (instrLength (fetch8 s).value - 1) (fetch8 s).state).bytes = l at *
  generalize (fetch8 s).value = op at *
  rcases instrLength_range op with h | h | h
  · rw [h] at hlen
    match l, hlen with
    | [], _ => simp [decode, h, fetchedInstr]
  · rw [h] at hlen
    match l, hlen with
    | [b], _ => simp [decode, h, fetchedInstr]
  · rw [h] at hlen
    match l, hlen with
    | [b, c], _ => simp [decode, h, fetchedInstr]

end Sys2Proof.Machine
end

