-- ==== Sys2Proof/Laws/PerInstr.lean ====
section
/-! SUPPORT. Statements made per instruction: the encoding of every instruction has the length its opcode byte selects. -/

namespace Sys2Proof.Laws.EncodedLength

/-- "The opcode byte alone selects the operation, the addressing mode and therefore the length" (30_encoding.md R110):
the encoding is the opcode byte and as many operand bytes as that byte's length says. -/
def Statement (i : Instr) : Prop :=
  ∃ op operands, encode i = op :: operands ∧ instrLength op = operands.length + 1

theorem brk : Statement .brk := ⟨_, _, rfl, rfl⟩
theorem oraIzx (z : Byte) : Statement (.oraIzx z) := ⟨_, _, rfl, rfl⟩
theorem illegal02 : Statement .illegal02 := ⟨_, _, rfl, rfl⟩
theorem illegal03 : Statement .illegal03 := ⟨_, _, rfl, rfl⟩
theorem illegal04 : Statement .illegal04 := ⟨_, _, rfl, rfl⟩
theorem oraZp (z : Byte) : Statement (.oraZp z) := ⟨_, _, rfl, rfl⟩
theorem aslZp (z : Byte) : Statement (.aslZp z) := ⟨_, _, rfl, rfl⟩
theorem illegal07 : Statement .illegal07 := ⟨_, _, rfl, rfl⟩
theorem php : Statement .php := ⟨_, _, rfl, rfl⟩
theorem oraImm (v : Byte) : Statement (.oraImm v) := ⟨_, _, rfl, rfl⟩
theorem aslAcc : Statement .aslAcc := ⟨_, _, rfl, rfl⟩
theorem illegal0B : Statement .illegal0B := ⟨_, _, rfl, rfl⟩
theorem illegal0C : Statement .illegal0C := ⟨_, _, rfl, rfl⟩
theorem oraAbs (w : Word) : Statement (.oraAbs w) := ⟨_, _, rfl, rfl⟩
theorem aslAbs (w : Word) : Statement (.aslAbs w) := ⟨_, _, rfl, rfl⟩
theorem illegal0F : Statement .illegal0F := ⟨_, _, rfl, rfl⟩
theorem bpl (off : Byte) : Statement (.bpl off) := ⟨_, _, rfl, rfl⟩
theorem oraIzy (z : Byte) : Statement (.oraIzy z) := ⟨_, _, rfl, rfl⟩
theorem illegal12 : Statement .illegal12 := ⟨_, _, rfl, rfl⟩
theorem illegal13 : Statement .illegal13 := ⟨_, _, rfl, rfl⟩
theorem illegal14 : Statement .illegal14 := ⟨_, _, rfl, rfl⟩
theorem oraZpx (z : Byte) : Statement (.oraZpx z) := ⟨_, _, rfl, rfl⟩
theorem aslZpx (z : Byte) : Statement (.aslZpx z) := ⟨_, _, rfl, rfl⟩
theorem illegal17 : Statement .illegal17 := ⟨_, _, rfl, rfl⟩
theorem clc : Statement .clc := ⟨_, _, rfl, rfl⟩
theorem oraAby (w : Word) : Statement (.oraAby w) := ⟨_, _, rfl, rfl⟩
theorem illegal1A : Statement .illegal1A := ⟨_, _, rfl, rfl⟩
theorem illegal1B : Statement .illegal1B := ⟨_, _, rfl, rfl⟩
theorem illegal1C : Statement .illegal1C := ⟨_, _, rfl, rfl⟩
theorem oraAbx (w : Word) : Statement (.oraAbx w) := ⟨_, _, rfl, rfl⟩
theorem aslAbx (w : Word) : Statement (.aslAbx w) := ⟨_, _, rfl, rfl⟩
theorem illegal1F : Statement .illegal1F := ⟨_, _, rfl, rfl⟩
theorem jsr (w : Word) : Statement (.jsr w) := ⟨_, _, rfl, rfl⟩
theorem andIzx (z : Byte) : Statement (.andIzx z) := ⟨_, _, rfl, rfl⟩
theorem illegal22 : Statement .illegal22 := ⟨_, _, rfl, rfl⟩
theorem illegal23 : Statement .illegal23 := ⟨_, _, rfl, rfl⟩
theorem bitZp (z : Byte) : Statement (.bitZp z) := ⟨_, _, rfl, rfl⟩
theorem andZp (z : Byte) : Statement (.andZp z) := ⟨_, _, rfl, rfl⟩
theorem rolZp (z : Byte) : Statement (.rolZp z) := ⟨_, _, rfl, rfl⟩
theorem illegal27 : Statement .illegal27 := ⟨_, _, rfl, rfl⟩
theorem plp : Statement .plp := ⟨_, _, rfl, rfl⟩
theorem andImm (v : Byte) : Statement (.andImm v) := ⟨_, _, rfl, rfl⟩
theorem rolAcc : Statement .rolAcc := ⟨_, _, rfl, rfl⟩
theorem illegal2B : Statement .illegal2B := ⟨_, _, rfl, rfl⟩
theorem bitAbs (w : Word) : Statement (.bitAbs w) := ⟨_, _, rfl, rfl⟩
theorem andAbs (w : Word) : Statement (.andAbs w) := ⟨_, _, rfl, rfl⟩
theorem rolAbs (w : Word) : Statement (.rolAbs w) := ⟨_, _, rfl, rfl⟩
theorem illegal2F : Statement .illegal2F := ⟨_, _, rfl, rfl⟩
theorem bmi (off : Byte) : Statement (.bmi off) := ⟨_, _, rfl, rfl⟩
theorem andIzy (z : Byte) : Statement (.andIzy z) := ⟨_, _, rfl, rfl⟩
theorem illegal32 : Statement .illegal32 := ⟨_, _, rfl, rfl⟩
theorem illegal33 : Statement .illegal33 := ⟨_, _, rfl, rfl⟩
theorem illegal34 : Statement .illegal34 := ⟨_, _, rfl, rfl⟩
theorem andZpx (z : Byte) : Statement (.andZpx z) := ⟨_, _, rfl, rfl⟩
theorem rolZpx (z : Byte) : Statement (.rolZpx z) := ⟨_, _, rfl, rfl⟩
theorem illegal37 : Statement .illegal37 := ⟨_, _, rfl, rfl⟩
theorem sec : Statement .sec := ⟨_, _, rfl, rfl⟩
theorem andAby (w : Word) : Statement (.andAby w) := ⟨_, _, rfl, rfl⟩
theorem illegal3A : Statement .illegal3A := ⟨_, _, rfl, rfl⟩
theorem illegal3B : Statement .illegal3B := ⟨_, _, rfl, rfl⟩
theorem illegal3C : Statement .illegal3C := ⟨_, _, rfl, rfl⟩
theorem andAbx (w : Word) : Statement (.andAbx w) := ⟨_, _, rfl, rfl⟩
theorem rolAbx (w : Word) : Statement (.rolAbx w) := ⟨_, _, rfl, rfl⟩
theorem illegal3F : Statement .illegal3F := ⟨_, _, rfl, rfl⟩
theorem rti : Statement .rti := ⟨_, _, rfl, rfl⟩
theorem eorIzx (z : Byte) : Statement (.eorIzx z) := ⟨_, _, rfl, rfl⟩
theorem illegal42 : Statement .illegal42 := ⟨_, _, rfl, rfl⟩
theorem illegal43 : Statement .illegal43 := ⟨_, _, rfl, rfl⟩
theorem illegal44 : Statement .illegal44 := ⟨_, _, rfl, rfl⟩
theorem eorZp (z : Byte) : Statement (.eorZp z) := ⟨_, _, rfl, rfl⟩
theorem lsrZp (z : Byte) : Statement (.lsrZp z) := ⟨_, _, rfl, rfl⟩
theorem illegal47 : Statement .illegal47 := ⟨_, _, rfl, rfl⟩
theorem pha : Statement .pha := ⟨_, _, rfl, rfl⟩
theorem eorImm (v : Byte) : Statement (.eorImm v) := ⟨_, _, rfl, rfl⟩
theorem lsrAcc : Statement .lsrAcc := ⟨_, _, rfl, rfl⟩
theorem illegal4B : Statement .illegal4B := ⟨_, _, rfl, rfl⟩
theorem jmpAbs (w : Word) : Statement (.jmpAbs w) := ⟨_, _, rfl, rfl⟩
theorem eorAbs (w : Word) : Statement (.eorAbs w) := ⟨_, _, rfl, rfl⟩
theorem lsrAbs (w : Word) : Statement (.lsrAbs w) := ⟨_, _, rfl, rfl⟩
theorem illegal4F : Statement .illegal4F := ⟨_, _, rfl, rfl⟩
theorem bvc (off : Byte) : Statement (.bvc off) := ⟨_, _, rfl, rfl⟩
theorem eorIzy (z : Byte) : Statement (.eorIzy z) := ⟨_, _, rfl, rfl⟩
theorem illegal52 : Statement .illegal52 := ⟨_, _, rfl, rfl⟩
theorem illegal53 : Statement .illegal53 := ⟨_, _, rfl, rfl⟩
theorem illegal54 : Statement .illegal54 := ⟨_, _, rfl, rfl⟩
theorem eorZpx (z : Byte) : Statement (.eorZpx z) := ⟨_, _, rfl, rfl⟩
theorem lsrZpx (z : Byte) : Statement (.lsrZpx z) := ⟨_, _, rfl, rfl⟩
theorem illegal57 : Statement .illegal57 := ⟨_, _, rfl, rfl⟩
theorem cli : Statement .cli := ⟨_, _, rfl, rfl⟩
theorem eorAby (w : Word) : Statement (.eorAby w) := ⟨_, _, rfl, rfl⟩
theorem illegal5A : Statement .illegal5A := ⟨_, _, rfl, rfl⟩
theorem illegal5B : Statement .illegal5B := ⟨_, _, rfl, rfl⟩
theorem illegal5C : Statement .illegal5C := ⟨_, _, rfl, rfl⟩
theorem eorAbx (w : Word) : Statement (.eorAbx w) := ⟨_, _, rfl, rfl⟩
theorem lsrAbx (w : Word) : Statement (.lsrAbx w) := ⟨_, _, rfl, rfl⟩
theorem illegal5F : Statement .illegal5F := ⟨_, _, rfl, rfl⟩
theorem rts : Statement .rts := ⟨_, _, rfl, rfl⟩
theorem adcIzx (z : Byte) : Statement (.adcIzx z) := ⟨_, _, rfl, rfl⟩
theorem illegal62 : Statement .illegal62 := ⟨_, _, rfl, rfl⟩
theorem illegal63 : Statement .illegal63 := ⟨_, _, rfl, rfl⟩
theorem illegal64 : Statement .illegal64 := ⟨_, _, rfl, rfl⟩
theorem adcZp (z : Byte) : Statement (.adcZp z) := ⟨_, _, rfl, rfl⟩
theorem rorZp (z : Byte) : Statement (.rorZp z) := ⟨_, _, rfl, rfl⟩
theorem illegal67 : Statement .illegal67 := ⟨_, _, rfl, rfl⟩
theorem pla : Statement .pla := ⟨_, _, rfl, rfl⟩
theorem adcImm (v : Byte) : Statement (.adcImm v) := ⟨_, _, rfl, rfl⟩
theorem rorAcc : Statement .rorAcc := ⟨_, _, rfl, rfl⟩
theorem illegal6B : Statement .illegal6B := ⟨_, _, rfl, rfl⟩
theorem jmpInd (w : Word) : Statement (.jmpInd w) := ⟨_, _, rfl, rfl⟩
theorem adcAbs (w : Word) : Statement (.adcAbs w) := ⟨_, _, rfl, rfl⟩
theorem rorAbs (w : Word) : Statement (.rorAbs w) := ⟨_, _, rfl, rfl⟩
theorem illegal6F : Statement .illegal6F := ⟨_, _, rfl, rfl⟩
theorem bvs (off : Byte) : Statement (.bvs off) := ⟨_, _, rfl, rfl⟩
theorem adcIzy (z : Byte) : Statement (.adcIzy z) := ⟨_, _, rfl, rfl⟩
theorem illegal72 : Statement .illegal72 := ⟨_, _, rfl, rfl⟩
theorem illegal73 : Statement .illegal73 := ⟨_, _, rfl, rfl⟩
theorem illegal74 : Statement .illegal74 := ⟨_, _, rfl, rfl⟩
theorem adcZpx (z : Byte) : Statement (.adcZpx z) := ⟨_, _, rfl, rfl⟩
theorem rorZpx (z : Byte) : Statement (.rorZpx z) := ⟨_, _, rfl, rfl⟩
theorem illegal77 : Statement .illegal77 := ⟨_, _, rfl, rfl⟩
theorem sei : Statement .sei := ⟨_, _, rfl, rfl⟩
theorem adcAby (w : Word) : Statement (.adcAby w) := ⟨_, _, rfl, rfl⟩
theorem illegal7A : Statement .illegal7A := ⟨_, _, rfl, rfl⟩
theorem illegal7B : Statement .illegal7B := ⟨_, _, rfl, rfl⟩
theorem illegal7C : Statement .illegal7C := ⟨_, _, rfl, rfl⟩
theorem adcAbx (w : Word) : Statement (.adcAbx w) := ⟨_, _, rfl, rfl⟩
theorem rorAbx (w : Word) : Statement (.rorAbx w) := ⟨_, _, rfl, rfl⟩
theorem illegal7F : Statement .illegal7F := ⟨_, _, rfl, rfl⟩
theorem illegal80 : Statement .illegal80 := ⟨_, _, rfl, rfl⟩
theorem staIzx (z : Byte) : Statement (.staIzx z) := ⟨_, _, rfl, rfl⟩
theorem illegal82 : Statement .illegal82 := ⟨_, _, rfl, rfl⟩
theorem illegal83 : Statement .illegal83 := ⟨_, _, rfl, rfl⟩
theorem styZp (z : Byte) : Statement (.styZp z) := ⟨_, _, rfl, rfl⟩
theorem staZp (z : Byte) : Statement (.staZp z) := ⟨_, _, rfl, rfl⟩
theorem stxZp (z : Byte) : Statement (.stxZp z) := ⟨_, _, rfl, rfl⟩
theorem illegal87 : Statement .illegal87 := ⟨_, _, rfl, rfl⟩
theorem dey : Statement .dey := ⟨_, _, rfl, rfl⟩
theorem illegal89 : Statement .illegal89 := ⟨_, _, rfl, rfl⟩
theorem txa : Statement .txa := ⟨_, _, rfl, rfl⟩
theorem illegal8B : Statement .illegal8B := ⟨_, _, rfl, rfl⟩
theorem styAbs (w : Word) : Statement (.styAbs w) := ⟨_, _, rfl, rfl⟩
theorem staAbs (w : Word) : Statement (.staAbs w) := ⟨_, _, rfl, rfl⟩
theorem stxAbs (w : Word) : Statement (.stxAbs w) := ⟨_, _, rfl, rfl⟩
theorem illegal8F : Statement .illegal8F := ⟨_, _, rfl, rfl⟩
theorem bcc (off : Byte) : Statement (.bcc off) := ⟨_, _, rfl, rfl⟩
theorem staIzy (z : Byte) : Statement (.staIzy z) := ⟨_, _, rfl, rfl⟩
theorem illegal92 : Statement .illegal92 := ⟨_, _, rfl, rfl⟩
theorem illegal93 : Statement .illegal93 := ⟨_, _, rfl, rfl⟩
theorem styZpx (z : Byte) : Statement (.styZpx z) := ⟨_, _, rfl, rfl⟩
theorem staZpx (z : Byte) : Statement (.staZpx z) := ⟨_, _, rfl, rfl⟩
theorem stxZpy (z : Byte) : Statement (.stxZpy z) := ⟨_, _, rfl, rfl⟩
theorem illegal97 : Statement .illegal97 := ⟨_, _, rfl, rfl⟩
theorem tya : Statement .tya := ⟨_, _, rfl, rfl⟩
theorem staAby (w : Word) : Statement (.staAby w) := ⟨_, _, rfl, rfl⟩
theorem txs : Statement .txs := ⟨_, _, rfl, rfl⟩
theorem illegal9B : Statement .illegal9B := ⟨_, _, rfl, rfl⟩
theorem illegal9C : Statement .illegal9C := ⟨_, _, rfl, rfl⟩
theorem staAbx (w : Word) : Statement (.staAbx w) := ⟨_, _, rfl, rfl⟩
theorem illegal9E : Statement .illegal9E := ⟨_, _, rfl, rfl⟩
theorem illegal9F : Statement .illegal9F := ⟨_, _, rfl, rfl⟩
theorem ldyImm (v : Byte) : Statement (.ldyImm v) := ⟨_, _, rfl, rfl⟩
theorem ldaIzx (z : Byte) : Statement (.ldaIzx z) := ⟨_, _, rfl, rfl⟩
theorem ldxImm (v : Byte) : Statement (.ldxImm v) := ⟨_, _, rfl, rfl⟩
theorem illegalA3 : Statement .illegalA3 := ⟨_, _, rfl, rfl⟩
theorem ldyZp (z : Byte) : Statement (.ldyZp z) := ⟨_, _, rfl, rfl⟩
theorem ldaZp (z : Byte) : Statement (.ldaZp z) := ⟨_, _, rfl, rfl⟩
theorem ldxZp (z : Byte) : Statement (.ldxZp z) := ⟨_, _, rfl, rfl⟩
theorem illegalA7 : Statement .illegalA7 := ⟨_, _, rfl, rfl⟩
theorem tay : Statement .tay := ⟨_, _, rfl, rfl⟩
theorem ldaImm (v : Byte) : Statement (.ldaImm v) := ⟨_, _, rfl, rfl⟩
theorem tax : Statement .tax := ⟨_, _, rfl, rfl⟩
theorem illegalAB : Statement .illegalAB := ⟨_, _, rfl, rfl⟩
theorem ldyAbs (w : Word) : Statement (.ldyAbs w) := ⟨_, _, rfl, rfl⟩
theorem ldaAbs (w : Word) : Statement (.ldaAbs w) := ⟨_, _, rfl, rfl⟩
theorem ldxAbs (w : Word) : Statement (.ldxAbs w) := ⟨_, _, rfl, rfl⟩
theorem illegalAF : Statement .illegalAF := ⟨_, _, rfl, rfl⟩
theorem bcs (off : Byte) : Statement (.bcs off) := ⟨_, _, rfl, rfl⟩
theorem ldaIzy (z : Byte) : Statement (.ldaIzy z) := ⟨_, _, rfl, rfl⟩
theorem illegalB2 : Statement .illegalB2 := ⟨_, _, rfl, rfl⟩
theorem illegalB3 : Statement .illegalB3 := ⟨_, _, rfl, rfl⟩
theorem ldyZpx (z : Byte) : Statement (.ldyZpx z) := ⟨_, _, rfl, rfl⟩
theorem ldaZpx (z : Byte) : Statement (.ldaZpx z) := ⟨_, _, rfl, rfl⟩
theorem ldxZpy (z : Byte) : Statement (.ldxZpy z) := ⟨_, _, rfl, rfl⟩
theorem illegalB7 : Statement .illegalB7 := ⟨_, _, rfl, rfl⟩
theorem clv : Statement .clv := ⟨_, _, rfl, rfl⟩
theorem ldaAby (w : Word) : Statement (.ldaAby w) := ⟨_, _, rfl, rfl⟩
theorem tsx : Statement .tsx := ⟨_, _, rfl, rfl⟩
theorem illegalBB : Statement .illegalBB := ⟨_, _, rfl, rfl⟩
theorem ldyAbx (w : Word) : Statement (.ldyAbx w) := ⟨_, _, rfl, rfl⟩
theorem ldaAbx (w : Word) : Statement (.ldaAbx w) := ⟨_, _, rfl, rfl⟩
theorem ldxAby (w : Word) : Statement (.ldxAby w) := ⟨_, _, rfl, rfl⟩
theorem illegalBF : Statement .illegalBF := ⟨_, _, rfl, rfl⟩
theorem cpyImm (v : Byte) : Statement (.cpyImm v) := ⟨_, _, rfl, rfl⟩
theorem cmpIzx (z : Byte) : Statement (.cmpIzx z) := ⟨_, _, rfl, rfl⟩
theorem illegalC2 : Statement .illegalC2 := ⟨_, _, rfl, rfl⟩
theorem illegalC3 : Statement .illegalC3 := ⟨_, _, rfl, rfl⟩
theorem cpyZp (z : Byte) : Statement (.cpyZp z) := ⟨_, _, rfl, rfl⟩
theorem cmpZp (z : Byte) : Statement (.cmpZp z) := ⟨_, _, rfl, rfl⟩
theorem decZp (z : Byte) : Statement (.decZp z) := ⟨_, _, rfl, rfl⟩
theorem illegalC7 : Statement .illegalC7 := ⟨_, _, rfl, rfl⟩
theorem iny : Statement .iny := ⟨_, _, rfl, rfl⟩
theorem cmpImm (v : Byte) : Statement (.cmpImm v) := ⟨_, _, rfl, rfl⟩
theorem dex : Statement .dex := ⟨_, _, rfl, rfl⟩
theorem illegalCB : Statement .illegalCB := ⟨_, _, rfl, rfl⟩
theorem cpyAbs (w : Word) : Statement (.cpyAbs w) := ⟨_, _, rfl, rfl⟩
theorem cmpAbs (w : Word) : Statement (.cmpAbs w) := ⟨_, _, rfl, rfl⟩
theorem decAbs (w : Word) : Statement (.decAbs w) := ⟨_, _, rfl, rfl⟩
theorem illegalCF : Statement .illegalCF := ⟨_, _, rfl, rfl⟩
theorem bne (off : Byte) : Statement (.bne off) := ⟨_, _, rfl, rfl⟩
theorem cmpIzy (z : Byte) : Statement (.cmpIzy z) := ⟨_, _, rfl, rfl⟩
theorem illegalD2 : Statement .illegalD2 := ⟨_, _, rfl, rfl⟩
theorem illegalD3 : Statement .illegalD3 := ⟨_, _, rfl, rfl⟩
theorem illegalD4 : Statement .illegalD4 := ⟨_, _, rfl, rfl⟩
theorem cmpZpx (z : Byte) : Statement (.cmpZpx z) := ⟨_, _, rfl, rfl⟩
theorem decZpx (z : Byte) : Statement (.decZpx z) := ⟨_, _, rfl, rfl⟩
theorem illegalD7 : Statement .illegalD7 := ⟨_, _, rfl, rfl⟩
theorem cld : Statement .cld := ⟨_, _, rfl, rfl⟩
theorem cmpAby (w : Word) : Statement (.cmpAby w) := ⟨_, _, rfl, rfl⟩
theorem illegalDA : Statement .illegalDA := ⟨_, _, rfl, rfl⟩
theorem illegalDB : Statement .illegalDB := ⟨_, _, rfl, rfl⟩
theorem illegalDC : Statement .illegalDC := ⟨_, _, rfl, rfl⟩
theorem cmpAbx (w : Word) : Statement (.cmpAbx w) := ⟨_, _, rfl, rfl⟩
theorem decAbx (w : Word) : Statement (.decAbx w) := ⟨_, _, rfl, rfl⟩
theorem illegalDF : Statement .illegalDF := ⟨_, _, rfl, rfl⟩
theorem cpxImm (v : Byte) : Statement (.cpxImm v) := ⟨_, _, rfl, rfl⟩
theorem sbcIzx (z : Byte) : Statement (.sbcIzx z) := ⟨_, _, rfl, rfl⟩
theorem illegalE2 : Statement .illegalE2 := ⟨_, _, rfl, rfl⟩
theorem illegalE3 : Statement .illegalE3 := ⟨_, _, rfl, rfl⟩
theorem cpxZp (z : Byte) : Statement (.cpxZp z) := ⟨_, _, rfl, rfl⟩
theorem sbcZp (z : Byte) : Statement (.sbcZp z) := ⟨_, _, rfl, rfl⟩
theorem incZp (z : Byte) : Statement (.incZp z) := ⟨_, _, rfl, rfl⟩
theorem illegalE7 : Statement .illegalE7 := ⟨_, _, rfl, rfl⟩
theorem inx : Statement .inx := ⟨_, _, rfl, rfl⟩
theorem sbcImm (v : Byte) : Statement (.sbcImm v) := ⟨_, _, rfl, rfl⟩
theorem nop : Statement .nop := ⟨_, _, rfl, rfl⟩
theorem illegalEB : Statement .illegalEB := ⟨_, _, rfl, rfl⟩
theorem cpxAbs (w : Word) : Statement (.cpxAbs w) := ⟨_, _, rfl, rfl⟩
theorem sbcAbs (w : Word) : Statement (.sbcAbs w) := ⟨_, _, rfl, rfl⟩
theorem incAbs (w : Word) : Statement (.incAbs w) := ⟨_, _, rfl, rfl⟩
theorem illegalEF : Statement .illegalEF := ⟨_, _, rfl, rfl⟩
theorem beq (off : Byte) : Statement (.beq off) := ⟨_, _, rfl, rfl⟩
theorem sbcIzy (z : Byte) : Statement (.sbcIzy z) := ⟨_, _, rfl, rfl⟩
theorem illegalF2 : Statement .illegalF2 := ⟨_, _, rfl, rfl⟩
theorem illegalF3 : Statement .illegalF3 := ⟨_, _, rfl, rfl⟩
theorem illegalF4 : Statement .illegalF4 := ⟨_, _, rfl, rfl⟩
theorem sbcZpx (z : Byte) : Statement (.sbcZpx z) := ⟨_, _, rfl, rfl⟩
theorem incZpx (z : Byte) : Statement (.incZpx z) := ⟨_, _, rfl, rfl⟩
theorem illegalF7 : Statement .illegalF7 := ⟨_, _, rfl, rfl⟩
theorem sed : Statement .sed := ⟨_, _, rfl, rfl⟩
theorem sbcAby (w : Word) : Statement (.sbcAby w) := ⟨_, _, rfl, rfl⟩
theorem illegalFA : Statement .illegalFA := ⟨_, _, rfl, rfl⟩
theorem illegalFB : Statement .illegalFB := ⟨_, _, rfl, rfl⟩
theorem illegalFC : Statement .illegalFC := ⟨_, _, rfl, rfl⟩
theorem sbcAbx (w : Word) : Statement (.sbcAbx w) := ⟨_, _, rfl, rfl⟩
theorem incAbx (w : Word) : Statement (.incAbx w) := ⟨_, _, rfl, rfl⟩
theorem illegalFF : Statement .illegalFF := ⟨_, _, rfl, rfl⟩

end Sys2Proof.Laws.EncodedLength
end

