-- ==== Sys2Proof/Laws/Vram.lean ====
section
/-! SUPPORT. The fields of a VRAM address under the operations that change it (47_ppu_registers.md R267). -/

namespace Sys2Proof.Machine

theorem field_eq (v : Word) (low len : Nat) : field v low len = v.toNat / 2 ^ low % 2 ^ len := by
  rw [field, Nat.shiftRight_eq_div_pow]

theorem field_extract (v : Word) (low len : Nat) : field v low len = (v.extractLsb' low len).toNat := by
  rw [field, BitVec.extractLsb'_toNat]

/-- Bit `k` of a word with a field replaced. -/
theorem getLsbD_putField (v : Word) (low len x k : Nat) (hk : k < 16) :
    (putField v low len x).getLsbD k = if low ≤ k ∧ k < low + len then x.testBit (k - low) else v.getLsbD k := by
  have hm : (BitVec.ofNat 16 ((2 ^ len - 1) <<< low)).getLsbD k = decide (low ≤ k ∧ k < low + len) := by
    rw [BitVec.getLsbD_ofNat, Nat.testBit_shiftLeft, Nat.testBit_two_pow_sub_one]
    by_cases h : low ≤ k
    · have : k - low < len ↔ k < low + len := by omega
      simp [h, hk, this]
    · simp [h]
  unfold putField
  dsimp only
  simp only [BitVec.getLsbD_or, BitVec.getLsbD_and, BitVec.getLsbD_not, hm, hk, BitVec.getLsbD_ofNat, Nat.testBit_shiftLeft,
    decide_true, Bool.true_and]
  by_cases h : low ≤ k ∧ k < low + len
  · simp [h]
  · simp [h]

/-- The field replaced holds the new value's low bits. -/
theorem field_putField_same (v : Word) (low len x : Nat) (h : low + len ≤ 16) : field (putField v low len x) low len = x % 2 ^ len := by
  have e : (putField v low len x).extractLsb' low len = BitVec.ofNat len x := by
    apply BitVec.eq_of_getLsbD_eq
    intro i hi
    rw [BitVec.getLsbD_extractLsb', getLsbD_putField v low len x (low + i) (by omega), BitVec.getLsbD_ofNat]
    simp [hi]
  rw [field_extract, e, BitVec.toNat_ofNat]

/-- A field that does not overlap the one replaced keeps its value. -/
theorem field_putField_other (v : Word) (low len x low' len' : Nat) (h : low' + len' ≤ 16)
    (hd : low' + len' ≤ low ∨ low + len ≤ low') : field (putField v low len x) low' len' = field v low' len' := by
  have e : (putField v low len x).extractLsb' low' len' = v.extractLsb' low' len' := by
    apply BitVec.eq_of_getLsbD_eq
    intro i hi
    rw [BitVec.getLsbD_extractLsb', BitVec.getLsbD_extractLsb', getLsbD_putField v low len x (low' + i) (by omega)]
    have : ¬(low ≤ low' + i ∧ low' + i < low + len) := by omega
    simp [this]
  rw [field_extract, field_extract, e]

theorem vramFields_eq (v : Word) : vramFields v = {
    coarseX := field v 0 5, coarseY := field v 5 5, ntX := field v 10 1, ntY := field v 11 1, fineY := field v 12 3
    bit15 := field v 15 1 } := by
  have := v.isLt
  simp only [vramFields, field_eq, VramFields.mk.injEq]
  omega

section
variable (v : Word) (x : Nat)

theorem vramFields_putCoarseX : vramFields (putField v 0 5 x) = { vramFields v with coarseX := x % 32 } := by
  simp only [vramFields_eq, field_putField_same v 0 5 x (by decide),
    field_putField_other v 0 5 x 5 5 (by decide) (by decide), field_putField_other v 0 5 x 10 1 (by decide) (by decide),
    field_putField_other v 0 5 x 11 1 (by decide) (by decide), field_putField_other v 0 5 x 12 3 (by decide) (by decide),
    field_putField_other v 0 5 x 15 1 (by decide) (by decide), Nat.reducePow]

theorem vramFields_putCoarseY : vramFields (putField v 5 5 x) = { vramFields v with coarseY := x % 32 } := by
  simp only [vramFields_eq, field_putField_same v 5 5 x (by decide),
    field_putField_other v 5 5 x 0 5 (by decide) (by decide), field_putField_other v 5 5 x 10 1 (by decide) (by decide),
    field_putField_other v 5 5 x 11 1 (by decide) (by decide), field_putField_other v 5 5 x 12 3 (by decide) (by decide),
    field_putField_other v 5 5 x 15 1 (by decide) (by decide), Nat.reducePow]

theorem vramFields_putNtX : vramFields (putField v 10 1 x) = { vramFields v with ntX := x % 2 } := by
  simp only [vramFields_eq, field_putField_same v 10 1 x (by decide),
    field_putField_other v 10 1 x 0 5 (by decide) (by decide), field_putField_other v 10 1 x 5 5 (by decide) (by decide),
    field_putField_other v 10 1 x 11 1 (by decide) (by decide), field_putField_other v 10 1 x 12 3 (by decide) (by decide),
    field_putField_other v 10 1 x 15 1 (by decide) (by decide), Nat.reducePow]

theorem vramFields_putNtY : vramFields (putField v 11 1 x) = { vramFields v with ntY := x % 2 } := by
  simp only [vramFields_eq, field_putField_same v 11 1 x (by decide),
    field_putField_other v 11 1 x 0 5 (by decide) (by decide), field_putField_other v 11 1 x 5 5 (by decide) (by decide),
    field_putField_other v 11 1 x 10 1 (by decide) (by decide), field_putField_other v 11 1 x 12 3 (by decide) (by decide),
    field_putField_other v 11 1 x 15 1 (by decide) (by decide), Nat.reducePow]

theorem vramFields_putFineY : vramFields (putField v 12 3 x) = { vramFields v with fineY := x % 8 } := by
  simp only [vramFields_eq, field_putField_same v 12 3 x (by decide),
    field_putField_other v 12 3 x 0 5 (by decide) (by decide), field_putField_other v 12 3 x 5 5 (by decide) (by decide),
    field_putField_other v 12 3 x 10 1 (by decide) (by decide), field_putField_other v 12 3 x 11 1 (by decide) (by decide),
    field_putField_other v 12 3 x 15 1 (by decide) (by decide), Nat.reducePow]

end

theorem bit_flip (v : Word) (low : Nat) : v ^^^ BitVec.ofNat 16 (2 ^ low) = putField v low 1 (1 - field v low 1) := by
  apply BitVec.eq_of_getLsbD_eq
  intro k hk
  have hb : field v low 1 = (v.getLsbD low).toNat := by
    rw [field_eq, BitVec.getLsbD, Nat.testBit_eq_decide_div_mod_eq]
    have := Nat.mod_two_eq_zero_or_one (v.toNat / 2 ^ low)
    rcases this with e | e <;> simp [e]
  rw [getLsbD_putField v low 1 _ k hk, BitVec.getLsbD_xor, BitVec.getLsbD_ofNat, Nat.testBit_two_pow, hb]
  by_cases e : low = k
  · subst e
    cases v.getLsbD low <;> simp [hk]
  · have : ¬(low ≤ k ∧ k < low + 1) := by omega
    rw [if_neg this]
    simp [e]

/-- `IncCoarseX` on the fields (48_ppu_pipeline.md R300). -/
theorem vramFields_incCoarseX (v : Word) : vramFields (incCoarseX v) =
    if (vramFields v).coarseX = 31 then { vramFields v with coarseX := 0, ntX := 1 - (vramFields v).ntX }
    else { vramFields v with coarseX := (vramFields v).coarseX + 1 } := by
  have hx : field v 0 5 = (vramFields v).coarseX := by rw [vramFields_eq]
  unfold incCoarseX
  rw [hx]
  split
  · have e := bit_flip (putField v 0 5 0) 10
    have hn : field (putField v 0 5 0) 10 1 = (vramFields v).ntX := by
      rw [field_putField_other v 0 5 0 10 1 (by decide) (by decide), vramFields_eq]
    rw [show (0x0400#16 : Word) = BitVec.ofNat 16 (2 ^ 10) from rfl, e, vramFields_putNtX, vramFields_putCoarseX, hn]
    simp
  · have : (vramFields v).coarseX < 32 := Nat.mod_lt _ (by decide)
    rw [vramFields_putCoarseX]
    simp
    omega

/-- `IncY` on the fields (48_ppu_pipeline.md R302). -/
theorem vramFields_incY (v : Word) : vramFields (incY v) =
    if (vramFields v).fineY < 7 then { vramFields v with fineY := (vramFields v).fineY + 1 }
    else if (vramFields v).coarseY = 29 then
      { vramFields v with fineY := 0, coarseY := 0, ntY := 1 - (vramFields v).ntY }
    else if (vramFields v).coarseY = 31 then { vramFields v with fineY := 0, coarseY := 0 }
    else { vramFields v with fineY := 0, coarseY := (vramFields v).coarseY + 1 } := by
  have hf : field v 12 3 = (vramFields v).fineY := by rw [vramFields_eq]
  have hy : field (putField v 12 3 0) 5 5 = (vramFields v).coarseY := by
    rw [field_putField_other v 12 3 0 5 5 (by decide) (by decide), vramFields_eq]
  have hy5 : (vramFields v).coarseY < 32 := Nat.mod_lt _ (by decide)
  unfold incY
  dsimp only
  rw [hf, hy]
  split
  · rw [vramFields_putFineY]
    simp
    omega
  · split
    · have e := bit_flip (putField (putField v 12 3 0) 5 5 0) 11
      have hn : field (putField (putField v 12 3 0) 5 5 0) 11 1 = (vramFields v).ntY := by
        rw [field_putField_other _ 5 5 0 11 1 (by decide) (by decide), field_putField_other v 12 3 0 11 1 (by decide) (by decide),
          vramFields_eq]
      rw [show (0x0800#16 : Word) = BitVec.ofNat 16 (2 ^ 11) from rfl, e, vramFields_putNtY, vramFields_putCoarseY,
        vramFields_putFineY, hn]
      simp
    · split
      · rw [vramFields_putCoarseY, vramFields_putFineY]
      · rw [vramFields_putCoarseY, vramFields_putFineY]
        simp
        omega

/-- The horizontal copy on the fields (48_ppu_pipeline.md R303). -/
theorem vramFields_copyHorizontal (t v : Word) : vramFields (copyHorizontal t v) =
    { vramFields v with coarseX := (vramFields t).coarseX, ntX := (vramFields t).ntX } := by
  have hx : field t 0 5 = (vramFields t).coarseX := by rw [vramFields_eq]
  have hn : field t 10 1 = (vramFields t).ntX := by rw [vramFields_eq]
  have hx5 : (vramFields t).coarseX < 32 := Nat.mod_lt _ (by decide)
  have hn2 : (vramFields t).ntX < 2 := Nat.mod_lt _ (by decide)
  rw [copyHorizontal, vramFields_putNtX, vramFields_putCoarseX, hx, hn, Nat.mod_eq_of_lt hx5, Nat.mod_eq_of_lt hn2]

/-- The vertical copy on the fields (48_ppu_pipeline.md R304). -/
theorem vramFields_copyVertical (t v : Word) : vramFields (copyVertical t v) =
    { vramFields v with coarseY := (vramFields t).coarseY, ntY := (vramFields t).ntY, fineY := (vramFields t).fineY } := by
  have hy : field t 5 5 = (vramFields t).coarseY := by rw [vramFields_eq]
  have hn : field t 11 1 = (vramFields t).ntY := by rw [vramFields_eq]
  have hf : field t 12 3 = (vramFields t).fineY := by rw [vramFields_eq]
  have hy5 : (vramFields t).coarseY < 32 := Nat.mod_lt _ (by decide)
  have hn2 : (vramFields t).ntY < 2 := Nat.mod_lt _ (by decide)
  have hf3 : (vramFields t).fineY < 8 := Nat.mod_lt _ (by decide)
  rw [copyVertical, vramFields_putFineY, vramFields_putNtY, vramFields_putCoarseY, hy, hn, hf, Nat.mod_eq_of_lt hy5,
    Nat.mod_eq_of_lt hn2, Nat.mod_eq_of_lt hf3]

end Sys2Proof.Machine
end

