-- ==== Sys2Proof/Laws/Ppu.lean ====
section
/-! SUPPORT. What each action of a PPU cycle can change (48_ppu_pipeline.md R290), and that a cycle keeps the invariant. -/

namespace Sys2Proof.Machine

/-! ## The footprint of each action -/

theorem preRenderClear_footprint (s : Int) (c : Nat) (p : Ppu) : preRenderClear s c p = { p with
    vblank := (preRenderClear s c p).vblank, spr0Hit := (preRenderClear s c p).spr0Hit
    sprOverflow := (preRenderClear s c p).sprOverflow, frameComplete := (preRenderClear s c p).frameComplete
    slots := (preRenderClear s c p).slots } := by
  unfold preRenderClear
  split <;> rfl

theorem fetchPhase_footprint (g : Config) (r : Memory 8) (c : Nat) (p : Ppu) : fetchPhase g r c p = { p with
    ntLatch := (fetchPhase g r c p).ntLatch, atLatch := (fetchPhase g r c p).atLatch
    patLoLatch := (fetchPhase g r c p).patLoLatch, patHiLatch := (fetchPhase g r c p).patHiLatch
    bgPatLo := (fetchPhase g r c p).bgPatLo, bgPatHi := (fetchPhase g r c p).bgPatHi
    bgAtLo := (fetchPhase g r c p).bgAtLo, bgAtHi := (fetchPhase g r c p).bgAtHi, v := (fetchPhase g r c p).v } := by
  unfold fetchPhase
  split
  · rfl
  · rfl
  · rfl
  · rfl
  · split <;> rfl
  · rfl

theorem backgroundFetch_footprint (g : Config) (r : Memory 8) (s : Int) (c : Nat) (p : Ppu) : backgroundFetch g r s c p = { p with
    ntLatch := (backgroundFetch g r s c p).ntLatch, atLatch := (backgroundFetch g r s c p).atLatch
    patLoLatch := (backgroundFetch g r s c p).patLoLatch, patHiLatch := (backgroundFetch g r s c p).patHiLatch
    bgPatLo := (backgroundFetch g r s c p).bgPatLo, bgPatHi := (backgroundFetch g r s c p).bgPatHi
    bgAtLo := (backgroundFetch g r s c p).bgAtLo, bgAtHi := (backgroundFetch g r s c p).bgAtHi
    v := (backgroundFetch g r s c p).v } := by
  unfold backgroundFetch
  split
  · exact fetchPhase_footprint g r c p
  · rfl

theorem composePixel_footprint (g : Config) (r : Memory 8) (s : Int) (c : Nat) (p : Ppu) : composePixel g r s c p = { p with
    spr0Hit := (composePixel g r s c p).spr0Hit, framebuffer := (composePixel g r s c p).framebuffer
    frameComplete := (composePixel g r s c p).frameComplete } := by
  unfold composePixel
  split <;> rfl

theorem shiftBackground_footprint (s : Int) (c : Nat) (p : Ppu) : shiftBackground s c p = { p with
    bgPatLo := (shiftBackground s c p).bgPatLo, bgPatHi := (shiftBackground s c p).bgPatHi
    bgAtLo := (shiftBackground s c p).bgAtLo, bgAtHi := (shiftBackground s c p).bgAtHi } := by
  unfold shiftBackground
  split <;> rfl

theorem advanceSlots_footprint (s : Int) (c : Nat) (p : Ppu) :
    advanceSlots s c p = { p with slots := (advanceSlots s c p).slots } := by
  unfold advanceSlots
  split <;> rfl

theorem updateAddress_footprint (s : Int) (c : Nat) (p : Ppu) : updateAddress s c p = { p with v := (updateAddress s c p).v } := by
  unfold updateAddress
  split
  · split
    · rfl
    · split
      · rfl
      · split <;> rfl
  · rfl

theorem evaluationRead_footprint (p : Ppu) : evaluationRead p = { p with evLatch := (evaluationRead p).evLatch } := by
  unfold evaluationRead
  split <;> rfl

theorem evaluationRead_whole (p : Ppu) : evaluationRead p = { p with
    soam := (evaluationRead p).soam, evN := (evaluationRead p).evN, evM := (evaluationRead p).evM
    evFound := (evaluationRead p).evFound, evMode := (evaluationRead p).evMode, evLatch := (evaluationRead p).evLatch
    spr0Next := (evaluationRead p).spr0Next, sprOverflow := (evaluationRead p).sprOverflow } := by
  unfold evaluationRead
  split <;> rfl

theorem evaluationStart_footprint (p : Ppu) : evaluationRead (startEvaluation p) = { p with
    soam := (evaluationRead (startEvaluation p)).soam, evN := (evaluationRead (startEvaluation p)).evN
    evM := (evaluationRead (startEvaluation p)).evM, evFound := (evaluationRead (startEvaluation p)).evFound
    evMode := (evaluationRead (startEvaluation p)).evMode, evLatch := (evaluationRead (startEvaluation p)).evLatch
    spr0Next := (evaluationRead (startEvaluation p)).spr0Next
    sprOverflow := (evaluationRead (startEvaluation p)).sprOverflow } := by
  unfold evaluationRead startEvaluation
  split <;> rfl

theorem evaluationWrite_whole (s : Int) (p : Ppu) : evaluationWrite s p = { p with
    soam := (evaluationWrite s p).soam, evN := (evaluationWrite s p).evN, evM := (evaluationWrite s p).evM
    evFound := (evaluationWrite s p).evFound, evMode := (evaluationWrite s p).evMode
    evLatch := (evaluationWrite s p).evLatch, spr0Next := (evaluationWrite s p).spr0Next
    sprOverflow := (evaluationWrite s p).sprOverflow } := by
  unfold evaluationWrite
  split
  · unfold evaluateScan
    dsimp only
    split <;> rfl
  · unfold evaluateCopy
    dsimp only
    split <;> rfl
  · unfold evaluateOverflow
    split <;> rfl
  · rfl

theorem evaluateSprites_footprint (s : Int) (c : Nat) (p : Ppu) : evaluateSprites s c p = { p with
    soam := (evaluateSprites s c p).soam, evN := (evaluateSprites s c p).evN, evM := (evaluateSprites s c p).evM
    evFound := (evaluateSprites s c p).evFound, evMode := (evaluateSprites s c p).evMode
    evLatch := (evaluateSprites s c p).evLatch, spr0Next := (evaluateSprites s c p).spr0Next
    sprOverflow := (evaluateSprites s c p).sprOverflow } := by
  unfold evaluateSprites evaluationCycle
  split
  · split
    · split <;> rfl
    · split
      · exact evaluationStart_footprint p
      · split
        · exact evaluationRead_whole p
        · exact evaluationWrite_whole s p
  · rfl

theorem fetchSlot_footprint (g : Config) (r : Memory 8) (s : Int) (i j : Nat) (p : Ppu) :
    fetchSlot g r s i j p = { p with slots := (fetchSlot g r s i j p).slots } := by
  unfold fetchSlot
  split <;> rfl

theorem fetchSprites_footprint (g : Config) (r : Memory 8) (s : Int) (c : Nat) (p : Ppu) : fetchSprites g r s c p = { p with
    slots := (fetchSprites g r s c p).slots, spr0Cur := (fetchSprites g r s c p).spr0Cur } := by
  unfold fetchSprites
  split
  · dsimp only
    unfold fetchSlot
    by_cases hc : c = 257
    · subst hc
      rfl
    · rw [if_neg hc]
      split <;> rfl
  · rfl

theorem vblankEntry_footprint (s : Int) (c : Nat) (p : Ppu) : vblankEntry s c p = { p with
    vblank := (vblankEntry s c p).vblank, nmiPending := (vblankEntry s c p).nmiPending } := by
  unfold vblankEntry
  split <;> rfl

theorem advanceCounters_footprint (p : Ppu) : advanceCounters p = { p with
    cycle := (advanceCounters p).cycle, scanline := (advanceCounters p).scanline, oddFrame := (advanceCounters p).oddFrame } := by
  unfold advanceCounters
  split
  · rfl
  · split <;> rfl

/-! ## The invariant -/

theorem preRenderClear_inv (s : Int) (c : Nat) (p : Ppu) (h : p.Inv) : (preRenderClear s c p).Inv := by
  unfold preRenderClear
  split
  · exact ⟨h.oam, h.soam, h.nt, h.pal, h.framebuffer, by simpa using h.slots, h.cycle, h.scanlineLow, h.scanlineHigh, h.found,
      h.scan, h.copy⟩
  · exact h

theorem backgroundFetch_inv (g : Config) (r : Memory 8) (s : Int) (c : Nat) (p : Ppu) (h : p.Inv) :
    (backgroundFetch g r s c p).Inv := by
  rw [backgroundFetch_footprint]
  exact ⟨h.oam, h.soam, h.nt, h.pal, h.framebuffer, h.slots, h.cycle, h.scanlineLow, h.scanlineHigh, h.found, h.scan, h.copy⟩

theorem composePixel_inv (g : Config) (r : Memory 8) (s : Int) (c : Nat) (p : Ppu) (h : p.Inv) : (composePixel g r s c p).Inv := by
  unfold composePixel
  split
  · rename_i hw
    simp only [inVisibleWindow, Bool.and_eq_true, decide_eq_true_eq] at hw
    refine ⟨h.oam, h.soam, h.nt, h.pal, Memory.wfIn_write _ _ _ _ h.framebuffer ?_, h.slots, h.cycle, h.scanlineLow,
      h.scanlineHigh, h.found, h.scan, h.copy⟩
    unfold pixelIndex
    omega
  · exact h

theorem shiftBackground_inv (s : Int) (c : Nat) (p : Ppu) (h : p.Inv) : (shiftBackground s c p).Inv := by
  rw [shiftBackground_footprint]
  exact ⟨h.oam, h.soam, h.nt, h.pal, h.framebuffer, h.slots, h.cycle, h.scanlineLow, h.scanlineHigh, h.found, h.scan, h.copy⟩

theorem advanceSlots_inv (s : Int) (c : Nat) (p : Ppu) (h : p.Inv) : (advanceSlots s c p).Inv := by
  unfold advanceSlots
  split
  · exact ⟨h.oam, h.soam, h.nt, h.pal, h.framebuffer, by simpa using h.slots, h.cycle, h.scanlineLow, h.scanlineHigh, h.found,
      h.scan, h.copy⟩
  · exact h

theorem updateAddress_inv (s : Int) (c : Nat) (p : Ppu) (h : p.Inv) : (updateAddress s c p).Inv := by
  rw [updateAddress_footprint]
  exact ⟨h.oam, h.soam, h.nt, h.pal, h.framebuffer, h.slots, h.cycle, h.scanlineLow, h.scanlineHigh, h.found, h.scan, h.copy⟩

theorem evaluationRead_inv (p : Ppu) (h : p.Inv) : (evaluationRead p).Inv := by
  rw [evaluationRead_footprint]
  exact ⟨h.oam, h.soam, h.nt, h.pal, h.framebuffer, h.slots, h.cycle, h.scanlineLow, h.scanlineHigh, h.found, h.scan, h.copy⟩

theorem evaluateScan_inv (s : Int) (p : Ppu) (h : p.Inv) (hm : p.evMode = .scan) : (evaluateScan s p).Inv := by
  have hf := (h.scan hm).1
  have hw := Memory.wfIn_write _ _ (4 * p.evFound) p.evLatch h.soam (by omega)
  unfold evaluateScan
  dsimp only
  split
  · exact ⟨h.oam, hw, h.nt, h.pal, h.framebuffer, h.slots, h.cycle, h.scanlineLow, h.scanlineHigh, h.found, nofun,
      fun _ => ⟨hf, show (1#2 : BitVec 2) ≠ 0#2 by decide⟩⟩
  · refine ⟨h.oam, hw, h.nt, h.pal, h.framebuffer, h.slots, h.cycle, h.scanlineLow, h.scanlineHigh, h.found, fun _ => h.scan hm, ?_⟩
    dsimp only [afterSprite]
    split <;> exact nofun

theorem evaluateCopy_inv (p : Ppu) (h : p.Inv) (hm : p.evMode = .copy) : (evaluateCopy p).Inv := by
  obtain ⟨hf, hne⟩ := h.copy hm
  have hlt := p.evM.isLt
  have hw := Memory.wfIn_write _ _ (4 * p.evFound + p.evM.toNat) p.evLatch h.soam (by omega)
  unfold evaluateCopy
  dsimp only
  split
  · refine ⟨h.oam, hw, h.nt, h.pal, h.framebuffer, h.slots, h.cycle, h.scanlineLow, h.scanlineHigh, by simpa using hf, ?_, ?_⟩
    · dsimp only [afterSprite]
      split
      · exact nofun
      · split
        · exact nofun
        · intro _
          exact ⟨by omega, rfl⟩
    · dsimp only [afterSprite]
      split
      · exact nofun
      · split <;> exact nofun
  · rename_i h3
    refine ⟨h.oam, hw, h.nt, h.pal, h.framebuffer, h.slots, h.cycle, h.scanlineLow, h.scanlineHigh, h.found, ?_, fun _ => ⟨hf, ?_⟩⟩
    · intro e
      rw [hm] at e
      cases e
    · dsimp only
      bv_omega

theorem evaluateOverflow_inv (s : Int) (p : Ppu) (h : p.Inv) : (evaluateOverflow s p).Inv := by
  unfold evaluateOverflow
  split
  · exact ⟨h.oam, h.soam, h.nt, h.pal, h.framebuffer, h.slots, h.cycle, h.scanlineLow, h.scanlineHigh, h.found, nofun, nofun⟩
  · refine ⟨h.oam, h.soam, h.nt, h.pal, h.framebuffer, h.slots, h.cycle, h.scanlineLow, h.scanlineHigh, h.found, ?_, ?_⟩ <;>
    · dsimp only [afterSprite]
      split <;> exact nofun

theorem evaluateSprites_inv (s : Int) (c : Nat) (p : Ppu) (h : p.Inv) : (evaluateSprites s c p).Inv := by
  unfold evaluateSprites evaluationCycle
  split
  · split
    · split
      · exact ⟨h.oam, Memory.wfIn_write _ 32 (c / 2 - 1) 0xFF#8 h.soam (by omega), h.nt, h.pal, h.framebuffer, h.slots, h.cycle, h.scanlineLow,
          h.scanlineHigh, h.found, h.scan, h.copy⟩
      · exact h
    · split
      · exact evaluationRead_inv _ ⟨h.oam, h.soam, h.nt, h.pal, h.framebuffer, h.slots, h.cycle, h.scanlineLow, h.scanlineHigh,
          Nat.zero_le 8, fun _ => ⟨show 0 < 8 by decide, rfl⟩, nofun⟩
      · split
        · exact evaluationRead_inv p h
        · unfold evaluationWrite
          split
          · exact evaluateScan_inv s p h (by assumption)
          · exact evaluateCopy_inv p h (by assumption)
          · exact evaluateOverflow_inv s p h
          · exact h
  · exact h

theorem fetchSlot_slots (g : Config) (r : Memory 8) (s : Int) (i j : Nat) (p : Ppu) :
    (fetchSlot g r s i j p).slots.length = p.slots.length := by
  unfold fetchSlot
  split <;> simp

theorem fetchSprites_inv (g : Config) (r : Memory 8) (s : Int) (c : Nat) (p : Ppu) (h : p.Inv) : (fetchSprites g r s c p).Inv := by
  have hs : (fetchSprites g r s c p).slots.length = 8 := by
    unfold fetchSprites
    split
    · dsimp only
      rw [fetchSlot_slots]
      split <;> exact h.slots
    · exact h.slots
  rw [fetchSprites_footprint]
  exact ⟨h.oam, h.soam, h.nt, h.pal, h.framebuffer, hs, h.cycle, h.scanlineLow, h.scanlineHigh, h.found, h.scan, h.copy⟩

theorem vblankEntry_inv (s : Int) (c : Nat) (p : Ppu) (h : p.Inv) : (vblankEntry s c p).Inv := by
  rw [vblankEntry_footprint]
  exact ⟨h.oam, h.soam, h.nt, h.pal, h.framebuffer, h.slots, h.cycle, h.scanlineLow, h.scanlineHigh, h.found, h.scan, h.copy⟩

theorem advanceCounters_inv (p : Ppu) (h : p.Inv) : (advanceCounters p).Inv := by
  have hc := h.cycle
  have hl := h.scanlineLow
  have hh := h.scanlineHigh
  unfold advanceCounters
  split
  · exact ⟨h.oam, h.soam, h.nt, h.pal, h.framebuffer, h.slots, by dsimp only; omega, hl, hh, h.found, h.scan, h.copy⟩
  · split
    · exact ⟨h.oam, h.soam, h.nt, h.pal, h.framebuffer, h.slots, Nat.zero_le _, by dsimp only; omega, by dsimp only; omega, h.found,
        h.scan, h.copy⟩
    · refine ⟨h.oam, h.soam, h.nt, h.pal, h.framebuffer, h.slots, ?_, show (-1 : Int) ≤ -1 by decide, show (-1 : Int) ≤ 260 by decide, h.found, h.scan, h.copy⟩
      dsimp only
      split <;> omega

/-- A PPU cycle keeps the invariant. -/
theorem ppuCycle_inv (g : Config) (r : Memory 8) (p : Ppu) (h : p.Inv) : (ppuCycle g r p).Inv :=
  advanceCounters_inv _ (vblankEntry_inv _ _ _ (fetchSprites_inv g r _ _ _ (evaluateSprites_inv _ _ _ (updateAddress_inv _ _ _
    (advanceSlots_inv _ _ _ (shiftBackground_inv _ _ _ (composePixel_inv g r _ _ _ (backgroundFetch_inv g r _ _ _
      (preRenderClear_inv _ _ p h)))))))))

end Sys2Proof.Machine
end

