-- ==== Sys2Proof/Tests/Slice0.lean ====
section
/-! SUPPORT. The package's own tests: well-formedness, decoding, one-step vectors of 95_test_vectors.md, and for every
statement with hypotheses a concrete state and operands that meet them. -/

namespace Sys2Proof.Tests

open Sys2Proof Sys2Proof.Machine

/-! ### Small states -/

/-- The start of the spec's vectors: `A = X = Y = 0`, `SP = $FD`, `P = $34`, `debt = 0`, `PC = $8000`. -/
def start : Cpu := { a := 0#8, x := 0#8, y := 0#8, sp := 0xFD#8, p := 0x34#8, pc := 0x8000#16, debt := 0 }

/-- A state with the CPU's registers, RAM and program ROM given. -/
def machine (cpu : Cpu) (ram prg : Memory 8) : State :=
  { State.reset with cpu := cpu, ram := ram, config := { Config.placeholder with prg := prg } }

/-- One step: the CPU's registers, and the bytes read at some addresses. -/
def ran (cpu : Cpu) (ram prg : Memory 8) (addrs : List Word) : Option (Cpu × List Byte) :=
  match step (machine cpu ram prg) with
  | .next t => some (t.cpu, addrs.map (plainByte t))
  | _ => none

/-- One step that ends in the illegal-opcode fault: the opcode byte and the program counter. -/
def stopped (cpu : Cpu) (ram prg : Memory 8) : Option (Byte × Word) :=
  match step (machine cpu ram prg) with
  | .fault (.illegalOpcode op t) => some (op, t.cpu.pc)
  | _ => none

/-- `LDA $10` at $8000, $99 at $0010. -/
def ready : State := machine start [(0x10, 0x99#8)] [(0, 0xA5#8), (1, 0x10#8)]

/-- `ready` with another PPU. -/
def withPpu (p : Ppu) : State := { ready with ppu := p }

/-- The PPU at power-on, at the scanline and cycle given. -/
def ppuAt (scanline : Int) (cycle : Nat) : Ppu := { Ppu.powerOn with scanline := scanline, cycle := cycle }

/-- The PPU after one cycle. -/
def after (p : Ppu) : Ppu := (stepPpu (withPpu p)).ppu

/-- The bytes `n` reads of one address give, one after the other. -/
def reads : Nat → State → Word → List Byte
  | 0, _, _ => []
  | n + 1, s, a => (memRead s a).value :: reads n (memRead s a).state a

/-- The state after writes. -/
def writes (s : State) (ws : List (Word × Byte)) : State := ws.foldl (fun u w => memWrite u w.1 w.2) s

/-- The instruction in bytes that hold exactly one. -/
def decoded (bytes : List Byte) : Option Instr :=
  match decode bytes with
  | .ok (i, []) => some i
  | _ => none

/-! ### Well-formedness: what the checks refuse (20_memory.md R95; the images, log 9) -/

theorem test_config_ok : Config.placeholder.wellFormed = true := by decide
theorem test_config_no_prg_bank : { Config.placeholder with prgBanks := 0 }.wellFormed = false := by decide
theorem test_config_prg_too_big : { Config.placeholder with prg := [(32768, 1#8)] }.wellFormed = false := by decide
theorem test_config_prg_unsorted : { Config.placeholder with prg := [(1, 1#8), (0, 1#8)] }.wellFormed = false := by decide
theorem test_config_chr_too_big : { Config.placeholder with chrRom := [(8192, 1#8)] }.wellFormed = false := by decide
theorem test_config_lut_too_big : { Config.placeholder with colorLut := [(64, 1#32)] }.wellFormed = false := by decide
theorem test_memory_lists_default : Memory.wf [(3, 0#8)] = false := by decide

/-! ### Decoding: every row of the opcode table R114 and the list R116 (30_encoding.md), the bytes written bit by bit -/

theorem test_decode_control_flow :
    [ [0b00000000#8],
      [0b00010000#8, 0b00110100#8],
      [0b00100000#8, 0b00110100#8, 0b00010010#8],
      [0b00110000#8, 0b00110100#8],
      [0b01000000#8],
      [0b01001100#8, 0b00110100#8, 0b00010010#8],
      [0b01010000#8, 0b00110100#8],
      [0b01100000#8],
      [0b01101100#8, 0b00110100#8, 0b00010010#8],
      [0b01110000#8, 0b00110100#8],
      [0b10010000#8, 0b00110100#8],
      [0b10110000#8, 0b00110100#8],
      [0b11010000#8, 0b00110100#8],
      [0b11110000#8, 0b00110100#8] ].map decoded =
    [ .brk, .bpl 0x34#8, .jsr 0x1234#16, .bmi 0x34#8, .rti, .jmpAbs 0x1234#16, .bvc 0x34#8,
      .rts, .jmpInd 0x1234#16, .bvs 0x34#8, .bcc 0x34#8, .bcs 0x34#8, .bne 0x34#8, .beq 0x34#8 ].map some := by decide
theorem test_decode_alu_1 :
    [ [0b00000001#8, 0b00110100#8],
      [0b00000101#8, 0b00110100#8],
      [0b00001001#8, 0b00110100#8],
      [0b00001101#8, 0b00110100#8, 0b00010010#8],
      [0b00010001#8, 0b00110100#8],
      [0b00010101#8, 0b00110100#8],
      [0b00011001#8, 0b00110100#8, 0b00010010#8],
      [0b00011101#8, 0b00110100#8, 0b00010010#8],
      [0b00100001#8, 0b00110100#8],
      [0b00100100#8, 0b00110100#8],
      [0b00100101#8, 0b00110100#8],
      [0b00101001#8, 0b00110100#8],
      [0b00101100#8, 0b00110100#8, 0b00010010#8],
      [0b00101101#8, 0b00110100#8, 0b00010010#8],
      [0b00110001#8, 0b00110100#8],
      [0b00110101#8, 0b00110100#8] ].map decoded =
    [ .oraIzx 0x34#8, .oraZp 0x34#8, .oraImm 0x34#8, .oraAbs 0x1234#16, .oraIzy 0x34#8, .oraZpx 0x34#8, .oraAby 0x1234#16,
      .oraAbx 0x1234#16, .andIzx 0x34#8, .bitZp 0x34#8, .andZp 0x34#8, .andImm 0x34#8, .bitAbs 0x1234#16, .andAbs 0x1234#16,
      .andIzy 0x34#8, .andZpx 0x34#8 ].map some := by decide
theorem test_decode_alu_2 :
    [ [0b00111001#8, 0b00110100#8, 0b00010010#8],
      [0b00111101#8, 0b00110100#8, 0b00010010#8],
      [0b01000001#8, 0b00110100#8],
      [0b01000101#8, 0b00110100#8],
      [0b01001001#8, 0b00110100#8],
      [0b01001101#8, 0b00110100#8, 0b00010010#8],
      [0b01010001#8, 0b00110100#8],
      [0b01010101#8, 0b00110100#8],
      [0b01011001#8, 0b00110100#8, 0b00010010#8],
      [0b01011101#8, 0b00110100#8, 0b00010010#8],
      [0b01100001#8, 0b00110100#8],
      [0b01100101#8, 0b00110100#8],
      [0b01101001#8, 0b00110100#8],
      [0b01101101#8, 0b00110100#8, 0b00010010#8],
      [0b01110001#8, 0b00110100#8],
      [0b01110101#8, 0b00110100#8] ].map decoded =
    [ .andAby 0x1234#16, .andAbx 0x1234#16, .eorIzx 0x34#8, .eorZp 0x34#8, .eorImm 0x34#8, .eorAbs 0x1234#16, .eorIzy 0x34#8,
      .eorZpx 0x34#8, .eorAby 0x1234#16, .eorAbx 0x1234#16, .adcIzx 0x34#8, .adcZp 0x34#8, .adcImm 0x34#8, .adcAbs 0x1234#16,
      .adcIzy 0x34#8, .adcZpx 0x34#8 ].map some := by decide
theorem test_decode_alu_3 :
    [ [0b01111001#8, 0b00110100#8, 0b00010010#8],
      [0b01111101#8, 0b00110100#8, 0b00010010#8],
      [0b11000000#8, 0b00110100#8],
      [0b11000001#8, 0b00110100#8],
      [0b11000100#8, 0b00110100#8],
      [0b11000101#8, 0b00110100#8],
      [0b11001001#8, 0b00110100#8],
      [0b11001100#8, 0b00110100#8, 0b00010010#8],
      [0b11001101#8, 0b00110100#8, 0b00010010#8],
      [0b11010001#8, 0b00110100#8],
      [0b11010101#8, 0b00110100#8],
      [0b11011001#8, 0b00110100#8, 0b00010010#8],
      [0b11011101#8, 0b00110100#8, 0b00010010#8],
      [0b11100000#8, 0b00110100#8],
      [0b11100001#8, 0b00110100#8],
      [0b11100100#8, 0b00110100#8] ].map decoded =
    [ .adcAby 0x1234#16, .adcAbx 0x1234#16, .cpyImm 0x34#8, .cmpIzx 0x34#8, .cpyZp 0x34#8, .cmpZp 0x34#8, .cmpImm 0x34#8,
      .cpyAbs 0x1234#16, .cmpAbs 0x1234#16, .cmpIzy 0x34#8, .cmpZpx 0x34#8, .cmpAby 0x1234#16, .cmpAbx 0x1234#16, .cpxImm 0x34#8,
      .sbcIzx 0x34#8, .cpxZp 0x34#8 ].map some := by decide
theorem test_decode_alu_4 :
    [ [0b11100101#8, 0b00110100#8],
      [0b11101001#8, 0b00110100#8],
      [0b11101100#8, 0b00110100#8, 0b00010010#8],
      [0b11101101#8, 0b00110100#8, 0b00010010#8],
      [0b11110001#8, 0b00110100#8],
      [0b11110101#8, 0b00110100#8],
      [0b11111001#8, 0b00110100#8, 0b00010010#8],
      [0b11111101#8, 0b00110100#8, 0b00010010#8] ].map decoded =
    [ .sbcZp 0x34#8, .sbcImm 0x34#8, .cpxAbs 0x1234#16, .sbcAbs 0x1234#16, .sbcIzy 0x34#8, .sbcZpx 0x34#8, .sbcAby 0x1234#16,
      .sbcAbx 0x1234#16 ].map some := by decide
theorem test_decode_shifts_1 :
    [ [0b00000110#8, 0b00110100#8],
      [0b00001010#8],
      [0b00001110#8, 0b00110100#8, 0b00010010#8],
      [0b00010110#8, 0b00110100#8],
      [0b00011110#8, 0b00110100#8, 0b00010010#8],
      [0b00100110#8, 0b00110100#8],
      [0b00101010#8],
      [0b00101110#8, 0b00110100#8, 0b00010010#8],
      [0b00110110#8, 0b00110100#8],
      [0b00111110#8, 0b00110100#8, 0b00010010#8],
      [0b01000110#8, 0b00110100#8],
      [0b01001010#8],
      [0b01001110#8, 0b00110100#8, 0b00010010#8],
      [0b01010110#8, 0b00110100#8],
      [0b01011110#8, 0b00110100#8, 0b00010010#8],
      [0b01100110#8, 0b00110100#8] ].map decoded =
    [ .aslZp 0x34#8, .aslAcc, .aslAbs 0x1234#16, .aslZpx 0x34#8, .aslAbx 0x1234#16, .rolZp 0x34#8, .rolAcc,
      .rolAbs 0x1234#16, .rolZpx 0x34#8, .rolAbx 0x1234#16, .lsrZp 0x34#8, .lsrAcc, .lsrAbs 0x1234#16, .lsrZpx 0x34#8,
      .lsrAbx 0x1234#16, .rorZp 0x34#8 ].map some := by decide
theorem test_decode_shifts_2 :
    [ [0b01101010#8],
      [0b01101110#8, 0b00110100#8, 0b00010010#8],
      [0b01110110#8, 0b00110100#8],
      [0b01111110#8, 0b00110100#8, 0b00010010#8],
      [0b10001000#8],
      [0b11000110#8, 0b00110100#8],
      [0b11001000#8],
      [0b11001010#8],
      [0b11001110#8, 0b00110100#8, 0b00010010#8],
      [0b11010110#8, 0b00110100#8],
      [0b11011110#8, 0b00110100#8, 0b00010010#8],
      [0b11100110#8, 0b00110100#8],
      [0b11101000#8],
      [0b11101110#8, 0b00110100#8, 0b00010010#8],
      [0b11110110#8, 0b00110100#8],
      [0b11111110#8, 0b00110100#8, 0b00010010#8] ].map decoded =
    [ .rorAcc, .rorAbs 0x1234#16, .rorZpx 0x34#8, .rorAbx 0x1234#16, .dey, .decZp 0x34#8, .iny,
      .dex, .decAbs 0x1234#16, .decZpx 0x34#8, .decAbx 0x1234#16, .incZp 0x34#8, .inx, .incAbs 0x1234#16,
      .incZpx 0x34#8, .incAbx 0x1234#16 ].map some := by decide
theorem test_decode_stack :
    [ [0b00001000#8],
      [0b00101000#8],
      [0b01001000#8],
      [0b01101000#8] ].map decoded =
    [ .php, .plp, .pha, .pla ].map some := by decide
theorem test_decode_flags :
    [ [0b00011000#8],
      [0b00111000#8],
      [0b01011000#8],
      [0b01111000#8],
      [0b10111000#8],
      [0b11011000#8],
      [0b11101010#8],
      [0b11111000#8] ].map decoded =
    [ .clc, .sec, .cli, .sei, .clv, .cld, .nop,
      .sed ].map some := by decide
theorem test_decode_loads_stores_transfers_1 :
    [ [0b10000001#8, 0b00110100#8],
      [0b10000100#8, 0b00110100#8],
      [0b10000101#8, 0b00110100#8],
      [0b10000110#8, 0b00110100#8],
      [0b10001010#8],
      [0b10001100#8, 0b00110100#8, 0b00010010#8],
      [0b10001101#8, 0b00110100#8, 0b00010010#8],
      [0b10001110#8, 0b00110100#8, 0b00010010#8],
      [0b10010001#8, 0b00110100#8],
      [0b10010100#8, 0b00110100#8],
      [0b10010101#8, 0b00110100#8],
      [0b10010110#8, 0b00110100#8],
      [0b10011000#8],
      [0b10011001#8, 0b00110100#8, 0b00010010#8],
      [0b10011010#8],
      [0b10011101#8, 0b00110100#8, 0b00010010#8] ].map decoded =
    [ .staIzx 0x34#8, .styZp 0x34#8, .staZp 0x34#8, .stxZp 0x34#8, .txa, .styAbs 0x1234#16, .staAbs 0x1234#16,
      .stxAbs 0x1234#16, .staIzy 0x34#8, .styZpx 0x34#8, .staZpx 0x34#8, .stxZpy 0x34#8, .tya, .staAby 0x1234#16,
      .txs, .staAbx 0x1234#16 ].map some := by decide
theorem test_decode_loads_stores_transfers_2 :
    [ [0b10100000#8, 0b00110100#8],
      [0b10100001#8, 0b00110100#8],
      [0b10100010#8, 0b00110100#8],
      [0b10100100#8, 0b00110100#8],
      [0b10100101#8, 0b00110100#8],
      [0b10100110#8, 0b00110100#8],
      [0b10101000#8],
      [0b10101001#8, 0b00110100#8],
      [0b10101010#8],
      [0b10101100#8, 0b00110100#8, 0b00010010#8],
      [0b10101101#8, 0b00110100#8, 0b00010010#8],
      [0b10101110#8, 0b00110100#8, 0b00010010#8],
      [0b10110001#8, 0b00110100#8],
      [0b10110100#8, 0b00110100#8],
      [0b10110101#8, 0b00110100#8],
      [0b10110110#8, 0b00110100#8] ].map decoded =
    [ .ldyImm 0x34#8, .ldaIzx 0x34#8, .ldxImm 0x34#8, .ldyZp 0x34#8, .ldaZp 0x34#8, .ldxZp 0x34#8, .tay,
      .ldaImm 0x34#8, .tax, .ldyAbs 0x1234#16, .ldaAbs 0x1234#16, .ldxAbs 0x1234#16, .ldaIzy 0x34#8, .ldyZpx 0x34#8,
      .ldaZpx 0x34#8, .ldxZpy 0x34#8 ].map some := by decide
theorem test_decode_loads_stores_transfers_3 :
    [ [0b10111001#8, 0b00110100#8, 0b00010010#8],
      [0b10111010#8],
      [0b10111100#8, 0b00110100#8, 0b00010010#8],
      [0b10111101#8, 0b00110100#8, 0b00010010#8],
      [0b10111110#8, 0b00110100#8, 0b00010010#8] ].map decoded =
    [ .ldaAby 0x1234#16, .tsx, .ldyAbx 0x1234#16, .ldaAbx 0x1234#16, .ldxAby 0x1234#16 ].map some := by decide
theorem test_decode_undefined_1 :
    [ 0b00000010#8, 0b00000011#8, 0b00000100#8, 0b00000111#8, 0b00001011#8, 0b00001100#8, 0b00001111#8,
      0b00010010#8, 0b00010011#8, 0b00010100#8, 0b00010111#8, 0b00011010#8, 0b00011011#8, 0b00011100#8,
      0b00011111#8, 0b00100010#8, 0b00100011#8, 0b00100111#8, 0b00101011#8, 0b00101111#8, 0b00110010#8,
      0b00110011#8, 0b00110100#8, 0b00110111#8, 0b00111010#8, 0b00111011#8, 0b00111100#8, 0b00111111#8,
      0b01000010#8, 0b01000011#8, 0b01000100#8, 0b01000111#8, 0b01001011#8, 0b01001111#8, 0b01010010#8 ].map (fun op => decoded [op]) =
    [ .illegal02, .illegal03, .illegal04, .illegal07, .illegal0B, .illegal0C, .illegal0F,
      .illegal12, .illegal13, .illegal14, .illegal17, .illegal1A, .illegal1B, .illegal1C,
      .illegal1F, .illegal22, .illegal23, .illegal27, .illegal2B, .illegal2F, .illegal32,
      .illegal33, .illegal34, .illegal37, .illegal3A, .illegal3B, .illegal3C, .illegal3F,
      .illegal42, .illegal43, .illegal44, .illegal47, .illegal4B, .illegal4F, .illegal52 ].map some := by decide
theorem test_decode_undefined_2 :
    [ 0b01010011#8, 0b01010100#8, 0b01010111#8, 0b01011010#8, 0b01011011#8, 0b01011100#8, 0b01011111#8,
      0b01100010#8, 0b01100011#8, 0b01100100#8, 0b01100111#8, 0b01101011#8, 0b01101111#8, 0b01110010#8,
      0b01110011#8, 0b01110100#8, 0b01110111#8, 0b01111010#8, 0b01111011#8, 0b01111100#8, 0b01111111#8,
      0b10000000#8, 0b10000010#8, 0b10000011#8, 0b10000111#8, 0b10001001#8, 0b10001011#8, 0b10001111#8,
      0b10010010#8, 0b10010011#8, 0b10010111#8, 0b10011011#8, 0b10011100#8, 0b10011110#8, 0b10011111#8 ].map (fun op => decoded [op]) =
    [ .illegal53, .illegal54, .illegal57, .illegal5A, .illegal5B, .illegal5C, .illegal5F,
      .illegal62, .illegal63, .illegal64, .illegal67, .illegal6B, .illegal6F, .illegal72,
      .illegal73, .illegal74, .illegal77, .illegal7A, .illegal7B, .illegal7C, .illegal7F,
      .illegal80, .illegal82, .illegal83, .illegal87, .illegal89, .illegal8B, .illegal8F,
      .illegal92, .illegal93, .illegal97, .illegal9B, .illegal9C, .illegal9E, .illegal9F ].map some := by decide
theorem test_decode_undefined_3 :
    [ 0b10100011#8, 0b10100111#8, 0b10101011#8, 0b10101111#8, 0b10110010#8, 0b10110011#8, 0b10110111#8,
      0b10111011#8, 0b10111111#8, 0b11000010#8, 0b11000011#8, 0b11000111#8, 0b11001011#8, 0b11001111#8,
      0b11010010#8, 0b11010011#8, 0b11010100#8, 0b11010111#8, 0b11011010#8, 0b11011011#8, 0b11011100#8,
      0b11011111#8, 0b11100010#8, 0b11100011#8, 0b11100111#8, 0b11101011#8, 0b11101111#8, 0b11110010#8,
      0b11110011#8, 0b11110100#8, 0b11110111#8, 0b11111010#8, 0b11111011#8, 0b11111100#8, 0b11111111#8 ].map (fun op => decoded [op]) =
    [ .illegalA3, .illegalA7, .illegalAB, .illegalAF, .illegalB2, .illegalB3, .illegalB7,
      .illegalBB, .illegalBF, .illegalC2, .illegalC3, .illegalC7, .illegalCB, .illegalCF,
      .illegalD2, .illegalD3, .illegalD4, .illegalD7, .illegalDA, .illegalDB, .illegalDC,
      .illegalDF, .illegalE2, .illegalE3, .illegalE7, .illegalEB, .illegalEF, .illegalF2,
      .illegalF3, .illegalF4, .illegalF7, .illegalFA, .illegalFB, .illegalFC, .illegalFF ].map some := by decide

theorem test_decode_truncated : decode [0xAD#8, 0x34#8] = .error (.truncated 0xAD#8) := rfl
theorem test_decode_empty : decode [] = .error .noOpcode := rfl
theorem test_table_word : decodeTableWord 24 0x02348D = some (.staAbs 0x0234#16) := by decide

/-! ### One step, from sections 2.1 to 2.7 of 95_test_vectors.md -/

theorem test_ldx_zpy_wrap :
    ran { start with y := 0x02#8 } [(0x0001, 0x66#8)] [(0x0000, 0xB6#8), (0x0001, 0xFF#8)] [] =
      some ({ start with x := 0x66#8, y := 0x02#8, pc := 0x8002#16, debt := 3 }, []) := by decide
theorem test_lda_izx_ptr_wrap :
    ran { start with x := 0x01#8 } [(0x0000, 0x03#8), (0x0300, 0xAB#8)] [(0x0000, 0xA1#8), (0x0001, 0xFE#8)] [] =
      some ({ start with a := 0xAB#8, x := 0x01#8, p := 0xB4#8, pc := 0x8002#16, debt := 5 }, []) := by decide
theorem test_lda_izy_cross :
    ran { start with y := 0x10#8 } [(0x0040, 0xF8#8), (0x0041, 0x02#8), (0x0308, 0xCD#8)] [(0x0000, 0xB1#8), (0x0001, 0x40#8)] [] =
      some ({ start with a := 0xCD#8, y := 0x10#8, p := 0xB4#8, pc := 0x8002#16, debt := 5 }, []) := by decide
theorem test_sta_sta_abx_no_p_on_stores :
    ran { start with a := 0x5C#8, x := 0xFF#8 } [] [(0x0000, 0x9D#8), (0x0001, 0x01#8), (0x0002, 0x02#8)] [0x0300#16] =
      some ({ start with a := 0x5C#8, x := 0xFF#8, pc := 0x8003#16, debt := 4 }, [0x5C#8]) := by decide
theorem test_jmp_jmp_ind_page_wrap_bug :
    ran start [(0x0300, 0x56#8), (0x03FF, 0x78#8), (0x0400, 0x99#8)] [(0x0000, 0x6C#8), (0x0001, 0xFF#8), (0x0002, 0x03#8)] [] =
      some ({ start with pc := 0x5678#16, debt := 4 }, []) := by decide
theorem test_ldx_ff :
    ran start [] [(0x0000, 0xA2#8), (0x0001, 0xFF#8)] [] =
      some ({ start with x := 0xFF#8, p := 0xB4#8, pc := 0x8002#16, debt := 1 }, []) := by decide
theorem test_ldy_zp :
    ran start [(0x0020, 0x01#8)] [(0x0000, 0xA4#8), (0x0001, 0x20#8)] [] =
      some ({ start with y := 0x01#8, pc := 0x8002#16, debt := 2 }, []) := by decide
theorem test_stx_zpy :
    ran { start with x := 0xAA#8, y := 0x05#8 } [] [(0x0000, 0x96#8), (0x0001, 0x10#8)] [0x0015#16] =
      some ({ start with x := 0xAA#8, y := 0x05#8, pc := 0x8002#16, debt := 3 }, [0xAA#8]) := by decide
theorem test_sty_abs :
    ran { start with y := 0x3C#8 } [] [(0x0000, 0x8C#8), (0x0002, 0x07#8)] [0x0700#16, 0x1F00#16] =
      some ({ start with y := 0x3C#8, pc := 0x8003#16, debt := 3 }, [0x3C#8, 0x3C#8]) := by decide
theorem test_tax :
    ran { start with x := 0x11#8 } [] [(0x0000, 0xAA#8)] [] =
      some ({ start with p := 0x36#8, pc := 0x8001#16, debt := 1 }, []) := by decide
theorem test_tay :
    ran { start with a := 0x90#8 } [] [(0x0000, 0xA8#8)] [] =
      some ({ start with a := 0x90#8, y := 0x90#8, p := 0xB4#8, pc := 0x8001#16, debt := 1 }, []) := by decide
theorem test_txa :
    ran { start with a := 0x80#8, x := 0x7F#8, p := 0xB4#8 } [] [(0x0000, 0x8A#8)] [] =
      some ({ start with a := 0x7F#8, x := 0x7F#8, pc := 0x8001#16, debt := 1 }, []) := by decide
theorem test_tya :
    ran { start with a := 0x01#8 } [] [(0x0000, 0x98#8)] [] =
      some ({ start with p := 0x36#8, pc := 0x8001#16, debt := 1 }, []) := by decide
theorem test_tsx :
    ran start [] [(0x0000, 0xBA#8)] [] =
      some ({ start with x := 0xFD#8, p := 0xB4#8, pc := 0x8001#16, debt := 1 }, []) := by decide
theorem test_txs_no_flags :
    ran start [] [(0x0000, 0x9A#8)] [] =
      some ({ start with sp := 0x00#8, pc := 0x8001#16, debt := 1 }, []) := by decide
theorem test_pha :
    ran { start with a := 0x77#8 } [] [(0x0000, 0x48#8)] [0x01FD#16] =
      some ({ start with a := 0x77#8, sp := 0xFC#8, pc := 0x8001#16, debt := 2 }, [0x77#8]) := by decide
theorem test_pha_wrap_sp_00 :
    ran { start with a := 0x77#8, sp := 0x00#8 } [] [(0x0000, 0x48#8)] [0x0100#16] =
      some ({ start with a := 0x77#8, sp := 0xFF#8, pc := 0x8001#16, debt := 2 }, [0x77#8]) := by decide
theorem test_php_p_00 :
    ran { start with p := 0x00#8 } [] [(0x0000, 0x08#8)] [0x01FD#16] =
      some ({ start with sp := 0xFC#8, p := 0x00#8, pc := 0x8001#16, debt := 2 }, [0x30#8]) := by decide
theorem test_php_p_cf :
    ran { start with p := 0xCF#8 } [] [(0x0000, 0x08#8)] [0x01FD#16] =
      some ({ start with sp := 0xFC#8, p := 0xCF#8, pc := 0x8001#16, debt := 2 }, [0xFF#8]) := by decide
theorem test_pla_wrap_sp_ff :
    ran { start with sp := 0xFF#8 } [(0x0100, 0x80#8)] [(0x0000, 0x68#8)] [] =
      some ({ start with a := 0x80#8, sp := 0x00#8, p := 0xB4#8, pc := 0x8001#16, debt := 3 }, []) := by decide
theorem test_pla_zero :
    ran { start with a := 0x33#8, sp := 0xFC#8 } [] [(0x0000, 0x68#8)] [] =
      some ({ start with p := 0x36#8, pc := 0x8001#16, debt := 3 }, []) := by decide
theorem test_plp_ff_with_p_04 :
    ran { start with sp := 0xFC#8, p := 0x04#8 } [(0x01FD, 0xFF#8)] [(0x0000, 0x28#8)] [] =
      some ({ start with p := 0xCF#8, pc := 0x8001#16, debt := 3 }, []) := by decide
theorem test_plp_00_with_p_34 :
    ran { start with sp := 0xFC#8 } [] [(0x0000, 0x28#8)] [] =
      some ({ start with p := 0x30#8, pc := 0x8001#16, debt := 3 }, []) := by decide
theorem test_adc_d0_90 :
    ran { start with a := 0xD0#8, p := 0x24#8 } [] [(0x0000, 0x69#8), (0x0001, 0x90#8)] [] =
      some ({ start with a := 0x60#8, p := 0x65#8, pc := 0x8002#16, debt := 1 }, []) := by decide
theorem test_adc_7f_00_c :
    ran { start with a := 0x7F#8, p := 0x25#8 } [] [(0x0000, 0x69#8)] [] =
      some ({ start with a := 0x80#8, p := 0xE4#8, pc := 0x8002#16, debt := 1 }, []) := by decide
theorem test_sbc_50_b0_c_1 :
    ran { start with a := 0x50#8, p := 0x25#8 } [] [(0x0000, 0xE9#8), (0x0001, 0xB0#8)] [] =
      some ({ start with a := 0xA0#8, p := 0xE4#8, pc := 0x8002#16, debt := 1 }, []) := by decide
theorem test_sbc_d_set_10_01_binary :
    ran { start with a := 0x10#8, p := 0x2D#8 } [] [(0x0000, 0xE9#8), (0x0001, 0x01#8)] [] =
      some ({ start with a := 0x0F#8, p := 0x2D#8, pc := 0x8002#16, debt := 1 }, []) := by decide
theorem test_and :
    ran { start with a := 0xF0#8 } [] [(0x0000, 0x29#8), (0x0001, 0x0F#8)] [] =
      some ({ start with p := 0x36#8, pc := 0x8002#16, debt := 1 }, []) := by decide
theorem test_ora :
    ran { start with a := 0x01#8 } [] [(0x0000, 0x09#8), (0x0001, 0x80#8)] [] =
      some ({ start with a := 0x81#8, p := 0xB4#8, pc := 0x8002#16, debt := 1 }, []) := by decide
theorem test_eor :
    ran { start with a := 0xFF#8 } [] [(0x0000, 0x49#8), (0x0001, 0xFF#8)] [] =
      some ({ start with p := 0x36#8, pc := 0x8002#16, debt := 1 }, []) := by decide
theorem test_cmp_less :
    ran { start with a := 0x40#8, p := 0x25#8 } [] [(0x0000, 0xC9#8), (0x0001, 0x41#8)] [] =
      some ({ start with a := 0x40#8, p := 0xA4#8, pc := 0x8002#16, debt := 1 }, []) := by decide
theorem test_cmp_80_vs_01_unsigned :
    ran { start with a := 0x80#8, p := 0x24#8 } [] [(0x0000, 0xC9#8), (0x0001, 0x01#8)] [] =
      some ({ start with a := 0x80#8, p := 0x25#8, pc := 0x8002#16, debt := 1 }, []) := by decide
theorem test_cpx :
    ran { start with x := 0x0F#8, p := 0x25#8 } [] [(0x0000, 0xE0#8), (0x0001, 0x10#8)] [] =
      some ({ start with x := 0x0F#8, p := 0xA4#8, pc := 0x8002#16, debt := 1 }, []) := by decide
theorem test_cpy :
    ran { start with p := 0x24#8 } [] [(0x0000, 0xC0#8)] [] =
      some ({ start with p := 0x27#8, pc := 0x8002#16, debt := 1 }, []) := by decide
theorem test_bit_zp :
    ran { start with a := 0x01#8, p := 0x24#8 } [(0x0010, 0xC0#8)] [(0x0000, 0x24#8), (0x0001, 0x10#8)] [] =
      some ({ start with a := 0x01#8, p := 0xE6#8, pc := 0x8002#16, debt := 2 }, []) := by decide
theorem test_bit_abs_nonzero :
    ran { start with a := 0xFF#8, p := 0xE6#8 } [(0x0200, 0x3F#8)] [(0x0000, 0x2C#8), (0x0002, 0x02#8)] [] =
      some ({ start with a := 0xFF#8, p := 0x24#8, pc := 0x8003#16, debt := 3 }, []) := by decide
theorem test_asl_a_41 :
    ran { start with a := 0x41#8, p := 0x25#8 } [] [(0x0000, 0x0A#8)] [] =
      some ({ start with a := 0x82#8, p := 0xA4#8, pc := 0x8001#16, debt := 1 }, []) := by decide
theorem test_lsr_a_01 :
    ran { start with a := 0x01#8, p := 0xA4#8 } [] [(0x0000, 0x4A#8)] [] =
      some ({ start with p := 0x27#8, pc := 0x8001#16, debt := 1 }, []) := by decide
theorem test_rol_a_80_c_1 :
    ran { start with a := 0x80#8, p := 0x25#8 } [] [(0x0000, 0x2A#8)] [] =
      some ({ start with a := 0x01#8, p := 0x25#8, pc := 0x8001#16, debt := 1 }, []) := by decide
theorem test_ror_a_01_c_1 :
    ran { start with a := 0x01#8, p := 0x25#8 } [] [(0x0000, 0x6A#8)] [] =
      some ({ start with a := 0x80#8, p := 0xA5#8, pc := 0x8001#16, debt := 1 }, []) := by decide
theorem test_asl_zp :
    ran { start with p := 0x24#8 } [(0x0010, 0xC0#8)] [(0x0000, 0x06#8), (0x0001, 0x10#8)] [0x0010#16] =
      some ({ start with p := 0xA5#8, pc := 0x8002#16, debt := 4 }, [0x80#8]) := by decide
theorem test_lsr_abx :
    ran { start with x := 0x01#8, p := 0x24#8 } [(0x0300, 0x02#8)] [(0x0000, 0x5E#8), (0x0001, 0xFF#8), (0x0002, 0x02#8)] [0x0300#16] =
      some ({ start with x := 0x01#8, p := 0x24#8, pc := 0x8003#16, debt := 6 }, [0x01#8]) := by decide
theorem test_rol_zpx :
    ran { start with x := 0x01#8, p := 0x25#8 } [(0x0000, 0x7F#8)] [(0x0000, 0x36#8), (0x0001, 0xFF#8)] [0x0000#16] =
      some ({ start with x := 0x01#8, p := 0xA4#8, pc := 0x8002#16, debt := 5 }, [0xFF#8]) := by decide
theorem test_ror_abs :
    ran { start with p := 0x24#8 } [(0x0300, 0x01#8)] [(0x0000, 0x6E#8), (0x0002, 0x03#8)] [0x0300#16] =
      some ({ start with p := 0x27#8, pc := 0x8003#16, debt := 5 }, [0x00#8]) := by decide
theorem test_inc_zp_ff :
    ran { start with p := 0x24#8 } [(0x0010, 0xFF#8)] [(0x0000, 0xE6#8), (0x0001, 0x10#8)] [0x0010#16] =
      some ({ start with p := 0x26#8, pc := 0x8002#16, debt := 4 }, [0x00#8]) := by decide
theorem test_dec_abs_00 :
    ran { start with p := 0x24#8 } [] [(0x0000, 0xCE#8), (0x0002, 0x03#8)] [0x0300#16] =
      some ({ start with p := 0xA4#8, pc := 0x8003#16, debt := 5 }, [0xFF#8]) := by decide
theorem test_dec_zp_01 :
    ran { start with p := 0x24#8 } [(0x0010, 0x01#8)] [(0x0000, 0xC6#8), (0x0001, 0x10#8)] [0x0010#16] =
      some ({ start with p := 0x26#8, pc := 0x8002#16, debt := 4 }, [0x00#8]) := by decide
theorem test_inx_wrap :
    ran { start with x := 0xFF#8, p := 0x24#8 } [] [(0x0000, 0xE8#8)] [] =
      some ({ start with p := 0x26#8, pc := 0x8001#16, debt := 1 }, []) := by decide
theorem test_iny :
    ran { start with y := 0x7F#8, p := 0x24#8 } [] [(0x0000, 0xC8#8)] [] =
      some ({ start with y := 0x80#8, p := 0xA4#8, pc := 0x8001#16, debt := 1 }, []) := by decide
theorem test_dex :
    ran { start with x := 0x01#8, p := 0x24#8 } [] [(0x0000, 0xCA#8)] [] =
      some ({ start with p := 0x26#8, pc := 0x8001#16, debt := 1 }, []) := by decide
theorem test_dey_wrap :
    ran { start with p := 0x24#8 } [] [(0x0000, 0x88#8)] [] =
      some ({ start with y := 0xFF#8, p := 0xA4#8, pc := 0x8001#16, debt := 1 }, []) := by decide
theorem test_jmp_abs :
    ran start [] [(0x0000, 0x4C#8), (0x0002, 0xC0#8)] [] =
      some ({ start with pc := 0xC000#16, debt := 2 }, []) := by decide
theorem test_jsr :
    ran start [] [(0x0000, 0x20#8), (0x0001, 0x34#8), (0x0002, 0x12#8)] [0x01FD#16, 0x01FC#16] =
      some ({ start with sp := 0xFB#8, pc := 0x1234#16, debt := 5 }, [0x80#8, 0x02#8]) := by decide
theorem test_jsr_at_page_end :
    ran { start with sp := 0x01#8, pc := 0x80FE#16 } [] [(0x00FE, 0x20#8), (0x0100, 0x90#8)] [0x0101#16, 0x0100#16] =
      some ({ start with sp := 0xFF#8, pc := 0x9000#16, debt := 5 }, [0x81#8, 0x00#8]) := by decide
theorem test_rts :
    ran { start with sp := 0xFB#8 } [(0x01FC, 0x02#8), (0x01FD, 0x80#8)] [(0x0000, 0x60#8)] [] =
      some ({ start with pc := 0x8003#16, debt := 5 }, []) := by decide
theorem test_rts_wraps_ffff_1 :
    ran { start with sp := 0xFB#8 } [(0x01FC, 0xFF#8), (0x01FD, 0xFF#8)] [(0x0000, 0x60#8)] [] =
      some ({ start with pc := 0x0000#16, debt := 5 }, []) := by decide
theorem test_bne_not_taken :
    ran { start with p := 0x26#8 } [] [(0x0000, 0xD0#8), (0x0001, 0x10#8)] [] =
      some ({ start with p := 0x26#8, pc := 0x8002#16, debt := 1 }, []) := by decide
theorem test_bne_taken_fwd :
    ran { start with p := 0x24#8 } [] [(0x0000, 0xD0#8), (0x0001, 0x10#8)] [] =
      some ({ start with p := 0x24#8, pc := 0x8012#16, debt := 2 }, []) := by decide
theorem test_beq_taken_back :
    ran { start with p := 0x26#8, pc := 0x8010#16 } [] [(0x0010, 0xF0#8), (0x0011, 0xFC#8)] [] =
      some ({ start with p := 0x26#8, pc := 0x800E#16, debt := 2 }, []) := by decide
theorem test_bcc_taken_cross_fwd :
    ran { start with p := 0x24#8, pc := 0x80F0#16 } [] [(0x00F0, 0x90#8), (0x00F1, 0x7F#8)] [] =
      some ({ start with p := 0x24#8, pc := 0x8171#16, debt := 3 }, []) := by decide
theorem test_bcs_taken_cross_back :
    ran { start with p := 0x25#8 } [] [(0x0000, 0xB0#8), (0x0001, 0x80#8)] [] =
      some ({ start with p := 0x25#8, pc := 0x7F82#16, debt := 3 }, []) := by decide
theorem test_bmi_offset_fe_self :
    ran { start with p := 0xA4#8 } [] [(0x0000, 0x30#8), (0x0001, 0xFE#8)] [] =
      some ({ start with p := 0xA4#8, pc := 0x8000#16, debt := 2 }, []) := by decide
theorem test_bpl_taken :
    ran { start with p := 0x24#8 } [] [(0x0000, 0x10#8), (0x0001, 0x02#8)] [] =
      some ({ start with p := 0x24#8, pc := 0x8004#16, debt := 2 }, []) := by decide
theorem test_bvc_not_taken :
    ran { start with p := 0x64#8 } [] [(0x0000, 0x50#8), (0x0001, 0x02#8)] [] =
      some ({ start with p := 0x64#8, pc := 0x8002#16, debt := 1 }, []) := by decide
theorem test_bvs_taken :
    ran { start with p := 0x64#8 } [] [(0x0000, 0x70#8)] [] =
      some ({ start with p := 0x64#8, pc := 0x8002#16, debt := 2 }, []) := by decide
theorem test_brk :
    ran { start with sp := 0xFF#8, p := 0x21#8, pc := 0x8123#16 } [] [(0x0124, 0xEA#8), (0x7FFF, 0x90#8)] [0x01FF#16, 0x01FE#16, 0x01FD#16] =
      some ({ start with sp := 0xFC#8, p := 0x25#8, pc := 0x9000#16, debt := 6 }, [0x81#8, 0x25#8, 0x31#8]) := by decide
theorem test_rti :
    ran { start with sp := 0xFC#8 } [(0x01FD, 0xB4#8), (0x01FE, 0x34#8), (0x01FF, 0x12#8)] [(0x0000, 0x40#8)] [] =
      some ({ start with sp := 0xFF#8, p := 0x84#8, pc := 0x1234#16, debt := 5 }, []) := by decide
theorem test_rti_popped_ff :
    ran { start with sp := 0xFC#8 } [(0x01FD, 0xFF#8), (0x01FF, 0x80#8)] [(0x0000, 0x40#8)] [] =
      some ({ start with sp := 0xFF#8, p := 0xCF#8, pc := 0x8000#16, debt := 5 }, []) := by decide
theorem test_clc :
    ran { start with p := 0xFF#8 } [] [(0x0000, 0x18#8)] [] =
      some ({ start with p := 0xFE#8, pc := 0x8001#16, debt := 1 }, []) := by decide
theorem test_sec :
    ran { start with p := 0x00#8 } [] [(0x0000, 0x38#8)] [] =
      some ({ start with p := 0x01#8, pc := 0x8001#16, debt := 1 }, []) := by decide
theorem test_cli :
    ran start [] [(0x0000, 0x58#8)] [] =
      some ({ start with p := 0x30#8, pc := 0x8001#16, debt := 1 }, []) := by decide
theorem test_sei :
    ran { start with p := 0x20#8 } [] [(0x0000, 0x78#8)] [] =
      some ({ start with p := 0x24#8, pc := 0x8001#16, debt := 1 }, []) := by decide
theorem test_cld :
    ran { start with p := 0x3C#8 } [] [(0x0000, 0xD8#8)] [] =
      some ({ start with pc := 0x8001#16, debt := 1 }, []) := by decide
theorem test_sed :
    ran start [] [(0x0000, 0xF8#8)] [] =
      some ({ start with p := 0x3C#8, pc := 0x8001#16, debt := 1 }, []) := by decide
theorem test_clv :
    ran { start with p := 0x74#8 } [] [(0x0000, 0xB8#8)] [] =
      some ({ start with pc := 0x8001#16, debt := 1 }, []) := by decide
theorem test_nop :
    ran { start with a := 0x12#8 } [] [(0x0000, 0xEA#8)] [] =
      some ({ start with a := 0x12#8, pc := 0x8001#16, debt := 1 }, []) := by decide
theorem test_illegal_02 :
    stopped start [] [(0x0000, 0x02#8)] = some (0x02#8, 0x8001#16) := by decide
theorem test_illegal_ff :
    stopped start [] [(0x0000, 0xFF#8)] = some (0xFF#8, 0x8001#16) := by decide

/-- The next step after `withFetchWord` runs the word: `LDA #$80` at the pc of `State.reset`. -/
theorem test_withFetchWord : (match step (State.reset.withFetchWord 16 0x80A9) with
    | .next t => some (t.cpu.a, t.cpu.pc, t.cpu.debt)
    | _ => none) = some (0x80#8, 0x0002#16, 1) := by decide

/-! ### The bus, from sections 1 and 2.8 of 95_test_vectors.md -/

theorem test_ram_mirrors : reads 1 (writes ready [(0x0000#16, 0xAB#8)]) 0x1800#16 = [0xAB#8] ∧
    reads 1 (writes ready [(0x1FFF#16, 0xCD#8)]) 0x07FF#16 = [0xCD#8] := by decide
theorem test_register_mirrors : (writes ready [(0x3FFE#16, 0x21#8), (0x202E#16, 0x08#8)]).ppu.v = 0x2108#16 := by decide
theorem test_controller_reads :
    reads 10 (writes { ready with buttons := 0xA5#8 } [(0x4016#16, 0x01#8), (0x4016#16, 0x00#8)]) 0x4016#16 =
      [0x41#8, 0x41#8, 0x40#8, 0x41#8, 0x40#8, 0x40#8, 0x41#8, 0x40#8, 0x41#8, 0x41#8] := by decide
theorem test_controller_strobe_bit0 :
    (writes { ready with buttons := 0xFF#8 } [(0x4016#16, 0xFE#8)]).ctrlLatch = 0x00#8 ∧
      (writes { ready with buttons := 0xFF#8 } [(0x4016#16, 0x03#8)]).ctrlLatch = 0xFF#8 := by decide
theorem test_rom_write : writes ready [(0x8000#16, 0x99#8)] = ready := by decide
theorem test_unmapped_store : reads 1 (writes ready [(0x6000#16, 0x5A#8)]) 0x6000#16 = [0x5A#8] := by decide
theorem test_prg_ram :
    (writes { ready with config := { ready.config with mapper := .mapper1 } } [(0x7FFF#16, 0xA5#8)]).prgRam = [(8191, 0xA5#8)] := by
  decide
theorem test_prg_16k_mirror :
    reads 1 { ready with config := { ready.config with prgBanks := 1, prg := [(0, 0x11#8), (0x3FFF, 0x22#8)] } } 0xFFFF#16 = [0x22#8] := by
  decide
/-- PPU write $2A at $3F10, $3F at $3F01; read $3F20 and $3F21; then $3F01 with grayscale. -/
theorem test_palette_alias :
    let s := ppuWrite (ppuWrite ready 0x3F10#16 0x2A#8) 0x3F01#16 0x3F#8
    ppuRead s.config s.chrRam s.ppu 0x3F20#16 = 0x2A#8 ∧ ppuRead s.config s.chrRam s.ppu 0x3FE1#16 = 0x3F#8 ∧
      ppuRead s.config s.chrRam { s.ppu with mask := 0x01#8 } 0x3F01#16 = 0x30#8 := by decide
theorem test_chr_ram_write :
    (ppuWrite { ready with config := { ready.config with chrBanks := 0 } } 0x1FFF#16 0x55#8).chrRam = [(0x1FFF, 0x55#8)] := by decide
theorem test_nametable_mirrors :
    (ppuWrite ready 0x2005#16 0x11#8).ppu.nt = [(5, 0x11#8)] ∧
      (ppuWrite { ready with config := { ready.config with mirroring := .vertical } } 0x3405#16 0x11#8).ppu.nt = [(0x405, 0x11#8)] := by
  decide
/-- T4: OAM-DMA from page $02 at `oamaddr` $10 puts byte $F0 of the page at OAM $00; on an odd clock it costs 514. -/
theorem test_oam_dma :
    let s := { withPpu { ready.ppu with oamaddr := 0x10#8 } with ram := [(0x2EF, 0xEF#8), (0x2F0, 0xF0#8)] }
    (oamDmaByte 0x02#8 (oamDmaByte 0x02#8 s 0xEF) 0xF0).ppu.oam = [(0x00, 0xF0#8), (0xFF, 0xEF#8)] ∧ oamDmaCost 7 = 514 ∧
      oamDmaCost 8 = 513 := by decide
/-- T6: the NMI entry. -/
theorem test_nmi :
    let s := machine { start with a := 0x11#8, sp := 0xFF#8, p := 0xD3#8, pc := 0x1234#16, debt := 3 } [] [(0x7FFB, 0x90#8)]
    (cpuNmi s).cpu = { s.cpu with sp := 0xFC#8, p := 0xD7#8, pc := 0x9000#16, debt := 7 } ∧
      (cpuNmi s).ram = [(0x1FD, 0xE3#8), (0x1FE, 0x34#8), (0x1FF, 0x12#8)] := by decide
/-- P7: an IRQ is discarded while I is set, and taken with the owed cycle dropped when it is clear. -/
theorem test_irq :
    let s := machine { start with p := 0x30#8, pc := 0x8005#16, debt := 1 } [] [(0x7FFF, 0x90#8)]
    (cpuIrq s).cpu = { s.cpu with sp := 0xFA#8, p := 0x34#8, pc := 0x9000#16, debt := 7 } ∧
      (cpuIrq s).ram = [(0x1FB, 0x20#8), (0x1FC, 0x05#8), (0x1FD, 0x80#8)] ∧ cpuIrq ready = ready := by decide
/-- T5: `cpu_reset`. -/
theorem test_reset :
    (cpuReset (machine { start with a := 1#8, x := 2#8, y := 3#8, sp := 4#8, p := 0xFF#8 } [] [(0x7FFD, 0xC0#8)])).cpu =
      { start with pc := 0xC000#16, debt := 7 } := by decide

/-! ### The PPU's registers, from section 2.9 of 95_test_vectors.md -/

theorem test_status_read :
    let r := memRead (withPpu { ready.ppu with vblank := true, spr0Hit := true, w := true }) 0x2002#16
    r.value.toNat / 32 = 6 ∧ r.state.ppu.vblank = false ∧ r.state.ppu.w = false ∧ r.state.ppu.spr0Hit = true := by
  refine ⟨?_, rfl, rfl, rfl⟩
  show (statusByte _ (Config.statusLow 0)).toNat / 32 = 6
  generalize Config.statusLow 0 = low
  revert low; decide
theorem test_addr_mask : (writes ready [(0x2006#16, 0xFF#8), (0x2006#16, 0xFF#8)]).ppu.v = 0x3FFF#16 := by decide
theorem test_data_buffered :
    let s := withPpu { ready.ppu with nt := [(0, 0xAA#8), (1, 0xBB#8)], dataBuf := 0x77#8, v := 0x2000#16 }
    reads 3 s 0x2007#16 = [0x77#8, 0xAA#8, 0xBB#8] := by decide
theorem test_data_palette :
    let r := memRead (withPpu { ready.ppu with pal := [(1, 0x2C#8)], dataBuf := 0x77#8, v := 0x3F01#16 }) 0x2007#16
    r.value = 0x2C#8 ∧ r.state.ppu.dataBuf = 0x2C#8 ∧ r.state.ppu.v = 0x3F02#16 := by decide
theorem test_data_increment_32 :
    (writes (withPpu { ready.ppu with ctrl := 0x04#8, v := 0x2000#16 }) [(0x2007#16, 1#8), (0x2007#16, 2#8)]).ppu.nt =
      [(0, 1#8), (32, 2#8)] := by decide
theorem test_scroll_as_document :
    let p := (writes ready [(0x2005#16, 0x7D#8), (0x2005#16, 0x5E#8)]).ppu
    p.t = 0x516F#16 ∧ p.fineX = 6#3 ∧ p.w = false := by decide
theorem test_scroll_as_2c02 :
    let p := (writes { ready with config := { ready.config with fineOrder := .as2c02 } } [(0x2005#16, 0x7D#8), (0x2005#16, 0x5E#8)]).ppu
    p.t = 0x616F#16 ∧ p.fineX = 5#3 ∧ p.w = false := by decide
theorem test_ctrl_nametable : (writes (withPpu { ready.ppu with t := 0x7FFF#16 }) [(0x2000#16, 0x00#8)]).ppu.t = 0x73FF#16 := by decide
theorem test_oam_data :
    let s := writes ready [(0x2003#16, 0xFE#8), (0x2004#16, 0x11#8), (0x2004#16, 0x22#8), (0x2004#16, 0x33#8)]
    s.ppu.oam = [(0, 0x33#8), (0xFE, 0x11#8), (0xFF, 0x22#8)] ∧ s.ppu.oamaddr = 0x01#8 := by decide

/-! ### One PPU cycle, from sections 2.10 to 2.12 of 95_test_vectors.md -/

/-- (-1, 329): the tile fetched is reloaded and shifted in the same step. -/
theorem test_ppu_reload :
    let p := after { ppuAt (-1) 329 with mask := 0x0A#8, v := 0x0001#16, ntLatch := 1#8, atLatch := 3#2, patLoLatch := 0x80#8, nt := [(1, 2#8)] }
    p.ntLatch = 2#8 ∧ shiftRegs p = [0x0100#16, 0x0000#16, 0x01FE#16, 0x01FE#16] := by decide
/-- (0, 1): the pixel is composed before the shift: background value 1 of palette 3. -/
theorem test_ppu_first_pixel :
    let p := { ppuAt 0 1 with
      mask := 0x0A#8, bgPatLo := 0x8000#16, bgAtLo := 0xFF00#16, bgAtHi := 0xFF00#16, pal := [(0x0D, 0x2A#8)] }
    (stepPpu { withPpu p with config := { ready.config with colorLut := [(0x2A, 7#32)] } }).ppu.framebuffer = [(0, 7#32)] := by decide
/-- Cycle 66: sprite 0 with Y 30 is in range on scanline 30. -/
theorem test_ppu_evaluation_scan :
    let p := after { ppuAt 30 66 with mask := 0x18#8, evMode := .scan, evLatch := 0x1E#8 }
    evalRegs p = { n := 0#6, m := 1#2, found := 0, mode := .copy, latch := 0x1E#8, spr0Next := true } ∧ p.soam.read 0 = 0x1E#8 := by
  decide
/-- (40, 132): sprite 9's tile byte is read as a Y. -/
theorem test_ppu_overflow_bug :
    let p := after { ppuAt 40 132 with mask := 0x18#8, evMode := .ovfScan, evN := 9#6, evM := 1#2, evFound := 8, evLatch := 40#8 }
    p.sprOverflow = true ∧ p.evMode = .done := by decide
/-- Slot 1 of section 2.11: tile 7 row 2, flipped, $01 loaded as $80. -/
theorem test_ppu_sprite_fetch :
    let p := { ppuAt 30 269 with
      mask := 0x18#8, evFound := 2, soam := [(4, 0x1C#8), (5, 0x07#8), (6, 0x41#8), (7, 0x32#8)] }
    ((stepPpu { withPpu p with config := { ready.config with chrRom := [(0x72, 0x01#8)] } }).ppu.slots[1]?).map (·.lo) = some 0x80#8 := by
  decide
/-- Sprite-0 hit at column 255: set at (31, 256). -/
theorem test_ppu_sprite0_last_column :
    (after { ppuAt 31 256 with
      mask := 0x1E#8, bgPatLo := 0xFFFF#16, spr0Cur := true, slots := [{ lo := 0x80#8, hi := 0#8, attr := 0#8, x := 0#8 }] }).spr0Hit = true := by
  decide
/-- (241, 1): vblank, and the NMI request when PPUCTRL enables it. -/
theorem test_ppu_vblank :
    (after { ppuAt 241 1 with ctrl := 0x80#8 }).nmiPending = true ∧ (after (ppuAt 241 1)).nmiPending = false ∧
      (after (ppuAt 241 1)).vblank = true := by decide

/-! ### For every statement with hypotheses, a concrete case that meets them -/

theorem test_meets_inv : ready.Inv :=
  ⟨⟨by decide, by decide, by decide, by decide, by decide, by decide, by decide, by decide, by decide, by decide, by decide, by decide⟩,
    by decide, by decide, by decide, by decide⟩
theorem test_meets_decoding : decode [0xA9#8, 0x80#8, 0xFF#8] = .ok (.ldaImm 0x80#8, [0xFF#8]) := rfl
theorem test_meets_opcode_sides : 0x02#8 ∈ undefinedOpcodes ∧ 0xFF#8 ∈ undefinedOpcodes ∧ 0x00#8 ∉ undefinedOpcodes ∧ 0xFE#8 ∉ undefinedOpcodes := by
  decide
/-- One byte at $1FFF, next to the PPU window; one at $4015, next to the controller port; three that end at $1FFF. -/
theorem test_meets_plain_fetch :
    let one := machine { start with pc := 0x1FFF#16 } [(0x7FF, 0xEA#8)] []
    let port := { ready with cpu := { start with pc := 0x4015#16 }, unmapped := [(0x4015, 0xEA#8)] }
    let three := machine { start with pc := 0x1FFD#16 } [(0x7FD, 0xAD#8)] []
    (instrLength (plainByte one 0x1FFF#16) = 1 ∧ ∀ k < 1, PlainRead (0x1FFF#16 + BitVec.ofNat 16 k)) ∧
      (instrLength (plainByte port 0x4015#16) = 1 ∧ ∀ k < 1, PlainRead (0x4015#16 + BitVec.ofNat 16 k)) ∧
      (instrLength (plainByte three 0x1FFD#16) = 3 ∧ ∀ k < 3, PlainRead (0x1FFD#16 + BitVec.ofNat 16 k)) := by
  unfold PlainRead; decide
theorem test_meets_fetch_wrap :
    let s := machine { start with pc := 0xFFFF#16 } [(0, 0x34#8), (1, 0x02#8)] [(0x7FFF, 0xAD#8)]
    s.cpu.pc = 0xFFFF#16 ∧ instrLength (plainByte s 0xFFFF#16) = 3 := by decide
theorem test_meets_step : (ppuSteps 3 (hostBoundary ready)).cpu.debt = 0 ∧
    decode (fetch (ppuSteps 3 (hostBoundary ready))).bytes = .ok (.ldaZp 0x10#8, []) := 
  ⟨by decide, (decode_fetch _).trans (congrArg (fun i => Except.ok (i, [])) (by decide : fetchedInstr _ = Instr.ldaZp 0x10#8))⟩
/-- The two geometries refused, and the greatest mapper id and least bank number accepted. -/
theorem test_meets_construction :
    let k : Cartridge := { prgBanks := 1, chrBanks := 0, mapperId := 1, mirroring := .vertical, prg := [(16383, 1#8)], chrRom := [] }
    2 ≤ { k with mapperId := 2 }.mapperId ∧ { k with prgBanks := 0 }.prgBanks = 0 ∧
      (k.mapperId < 2 ∧ 1 ≤ k.prgBanks ∧ k.prg.wfIn (16384 * k.prgBanks) = true ∧ k.chrRom.wfIn (8192 * k.chrBanks) = true ∧
        Config.placeholder.colorLut.wfIn 64 = true) := by decide
theorem test_meets_bus_ranges :
    (0x1FFF#16).toNat ≤ 0x1FFF ∧ 0x2000 ≤ (0x2000#16).toNat ∧ (0x2000#16).toNat ≤ 0x3FFF ∧ (0x3FFF#16).toNat ≤ 0x3FFF ∧
      0x8000 ≤ (0x8000#16).toNat ∧ 0x8000 ≤ (0xFFFF#16).toNat := by decide
theorem test_meets_one_bank :
    let s := { ready with config := { ready.config with prgBanks := 1 } }
    s.config.prgBanks = 1 ∧ 0x8000 ≤ (0xBFFF#16).toNat ∧ (0xBFFF#16).toNat < 0xC000 := by decide
theorem test_meets_two_banks : ready.config.prgBanks = 2 ∧ 0x8000 ≤ (0xC000#16).toNat := by decide
theorem test_meets_work_ram :
    let s := { ready with config := { ready.config with mapper := .mapper1 } }
    s.config.mapper = .mapper1 ∧ 0x6000 ≤ (0x6000#16).toNat ∧ (0x7FFF#16).toNat ≤ 0x7FFF := by decide
/-- The unmapped bytes: $7FFF without work RAM, $5FFF with it, and $4014, which is read but not written there. -/
theorem test_meets_unmapped :
    (0x4000 ≤ (0x7FFF#16).toNat ∧ (0x7FFF#16).toNat ≤ 0x7FFF ∧ (ready.config.mapper = .mapper1 → (0x7FFF#16).toNat < 0x6000) ∧
      0x7FFF#16 ≠ 0x4016#16 ∧ 0x7FFF#16 ≠ 0x4014#16) ∧
    (0x4000 ≤ (0x5FFF#16).toNat ∧ (MapperId.mapper1 = .mapper1 → (0x5FFF#16).toNat < 0x6000) ∧ 0x5FFF#16 ≠ 0x4016#16) ∧
    0x4000 ≤ (0x4014#16).toNat ∧ 0x4014#16 ≠ 0x4016#16 := by decide
theorem test_meets_chr_rom : (0x1FFF#16).toNat ≤ 0x1FFF ∧ ready.config.chrBanks ≠ 0 := by decide
theorem test_meets_window_slots :
    (0x2002#16).toNat % 8 = 2 ∧ (0x3FFC#16).toNat % 8 = 4 ∧ (0x3FFF#16).toNat % 8 = 7 ∧ (0x2000#16).toNat % 8 ∈ [0, 1, 3, 5, 6] ∧
      (0x3FFE#16).toNat % 8 ∈ [0, 1, 3, 5, 6] := by decide
theorem test_meets_side_effect_free :
    ((0x4017#16).toNat ≤ 0x1FFF ∨ (0x4000 ≤ (0x4017#16).toNat ∧ 0x4017#16 ≠ 0x4016#16)) ∧
      ¬(0x2000 ≤ (0x4000#16).toNat ∧ (0x4000#16).toNat ≤ 0x3FFF) ∧ 0x4000#16 ≠ 0x4014#16 ∧ 0x4000#16 ≠ 0x4016#16 := by decide
theorem test_meets_dma_pages : ((0x1F#8).toNat ≤ 0x1F ∨ 0x41 ≤ (0x1F#8).toNat) ∧ ((0x41#8).toNat ≤ 0x1F ∨ 0x41 ≤ (0x41#8).toNat) := by decide
theorem test_meets_nametables :
    0x2000 ≤ (0x2FFF#16).toNat ∧ (0x2FFF#16).toNat ≤ 0x2FFF ∧ 0x3000 ≤ (0x3EFF#16).toNat ∧ (0x3EFF#16).toNat ≤ 0x3EFF ∧
      Config.placeholder.mirroring = .horizontal ∧ { Config.placeholder with mirroring := .vertical }.mirroring = .vertical := by decide
theorem test_meets_write_only : 0x2000#16 ∈ [0x2000#16, 0x2001#16, 0x2003#16, 0x2005#16, 0x2006#16] ∧
    0x2006#16 ∈ [0x2000#16, 0x2001#16, 0x2003#16, 0x2005#16, 0x2006#16] := by decide
theorem test_meets_scroll_toggle :
    let second := withPpu { ready.ppu with w := true }
    let as2c02 := fun s : State => { s with config := { s.config with fineOrder := .as2c02 } }
    (ready.ppu.w = false ∧ ready.config.fineOrder = .asDocument) ∧ (second.ppu.w = true ∧ second.config.fineOrder = .asDocument) ∧
      ((as2c02 ready).ppu.w = false ∧ (as2c02 ready).config.fineOrder = .as2c02) ∧
      ((as2c02 second).ppu.w = true ∧ (as2c02 second).config.fineOrder = .as2c02) := by decide
theorem test_meets_idle_cycles : IdleCycle 0 0 ∧ IdleCycle 239 337 ∧ IdleCycle 240 1 ∧ IdleCycle 241 2 ∧ IdleCycle 242 1 ∧
    IdleCycle (-1) 340 := by decide
theorem test_meets_flag_cycles :
    ((ppuAt (-1) 1).scanline = -1 ∧ (ppuAt (-1) 1).cycle = 1) ∧ ((ppuAt 241 1).scanline = 241 ∧ (ppuAt 241 1).cycle = 1) ∧
      (¬((ppuAt 241 2).scanline = 241 ∧ (ppuAt 241 2).cycle = 1) ∧ ¬((ppuAt 241 2).scanline = -1 ∧ (ppuAt 241 2).cycle = 1)) := by decide
theorem test_meets_rendering_off : (ppuAt 0 1).mask.getLsbD 3 = false ∧ (ppuAt 0 1).mask.getLsbD 4 = false := by decide
theorem test_meets_pixel_cycles : PixelCycle 0 1 ∧ PixelCycle 239 256 ∧ ¬PixelCycle 239 257 ∧ ¬PixelCycle 240 1 ∧ ¬PixelCycle (-1) 1 ∧
    ¬PixelCycle 0 0 := by decide
theorem test_meets_fetch_cycles : FetchCycle (-1) 1 ∧ FetchCycle 239 256 ∧ ¬FetchCycle 0 257 ∧ ¬FetchCycle 0 320 ∧ FetchCycle 0 321 ∧
    FetchCycle 239 336 ∧ ¬FetchCycle 0 337 ∧ ¬FetchCycle 240 1 := by decide
/-- The evaluation's first clear, its last, its start, a read, and its end once done. -/
theorem test_meets_evaluation_cycles :
    let on := fun (c : Nat) (m : EvalMode) => { ppuAt 0 c with mask := 0x08#8, evMode := m }
    let rendering := fun p : Ppu => (p.mask.getLsbD 3 || p.mask.getLsbD 4) = true
    (PixelCycle 0 2 ∧ rendering (on 2 .done) ∧ (on 64 .done).cycle ≤ 64) ∧ (PixelCycle 0 65 ∧ (on 65 .done).cycle = 65) ∧
      (65 < (on 67 .copy).cycle ∧ (on 67 .copy).cycle % 2 = 1 ∧ (on 67 .copy).evMode ≠ .done) ∧
      (PixelCycle 0 256 ∧ rendering (on 256 .done) ∧ 65 < (on 256 .done).cycle ∧ (on 256 .done).evMode = .done) ∧
      ¬(PixelCycle 0 2 ∧ rendering (ppuAt 0 2)) := by decide
theorem test_meets_evaluation_modes :
    let on := fun (c : Nat) (m : EvalMode) => { ppuAt 0 c with mask := 0x10#8, evMode := m }
    (PixelCycle 0 66 ∧ 66 ≤ (on 66 .scan).cycle ∧ (on 66 .scan).cycle % 2 = 0 ∧ ((on 66 .scan).mask.getLsbD 3 || (on 66 .scan).mask.getLsbD 4) = true ∧
      (on 66 .scan).evMode = .scan) ∧ (PixelCycle 0 256 ∧ (on 256 .copy).cycle % 2 = 0 ∧ (on 256 .copy).evMode = .copy) ∧
      (on 256 .ovfScan).evMode = .ovfScan := by decide
/-- The ends of both heights, and the formula of R311 at $EF on scanline 239 (log 14). -/
theorem test_meets_in_range : InRange 30 false 0x1E#8 ∧ InRange 37 false 0x1E#8 ∧ ¬InRange 38 false 0x1E#8 ∧ ¬InRange 29 true 0x1E#8 ∧
    InRange 45 true 0x1E#8 ∧ ¬InRange 46 true 0x1E#8 ∧ InRange 239 false 0xEF#8 ∧ ¬InRange 239 true 0xF0#8 := by decide
/-- With rendering on: a fetch cycle, a clear cycle, an odd read in the overflow scan, an even cycle of the scan, and (-1, 2). -/
theorem test_meets_overflow_kept :
    let on := fun (l : Int) (c : Nat) (m : EvalMode) => { ppuAt l c with mask := 0x18#8, evMode := m }
    let sets := fun p : Ppu => PixelCycle p.scanline p.cycle ∧ (p.mask.getLsbD 3 || p.mask.getLsbD 4) = true ∧ 66 ≤ p.cycle ∧
      p.cycle % 2 = 0 ∧ p.evMode = .ovfScan
    ∀ p ∈ [on 0 300 .ovfScan, on 0 64 .ovfScan, on 0 255 .ovfScan, on 0 256 .scan, on (-1) 2 .ovfScan],
      ¬(p.scanline = -1 ∧ p.cycle = 1) ∧ ¬sets p := by decide
/-- A used slot whose flipped row is negative: Y 20, 8 rows high, on scanline 30. -/
theorem test_meets_stray_row :
    let p := fun c : Nat => { ppuAt 30 c with mask := 0x18#8, evFound := 1, soam := [(0, 0x14#8), (2, 0x80#8)] }
    (p 261).soam.read 2 = 0x80#8 ∧ (8 : Int) - 1 - ((p 261).scanline - (((p 261).soam.read 0).toNat : Int)) < 0 ∧
      ((p 261).cycle - 257) % 8 = 4 ∧ ((p 263).cycle - 257) % 8 = 6 ∧ ((p 263).cycle - 257) / 8 < (p 263).evFound := by decide
/-- The sprite fetch: slot 0's first cycle, slot 7's last, a used slot in range at its two pattern cycles, an unused slot. -/
theorem test_meets_sprite_fetch :
    let p := fun c : Nat => { ppuAt 30 c with mask := 0x18#8, evFound := 1, soam := [(0, 0x1E#8)] }
    let fetching := fun q : Ppu => 0 ≤ q.scanline ∧ q.scanline ≤ 239 ∧ 257 ≤ q.cycle ∧ q.cycle ≤ 320 ∧ (q.mask.getLsbD 3 || q.mask.getLsbD 4) = true
    (fetching (p 257) ∧ ((p 257).cycle - 257) % 8 = 0) ∧ (fetching (p 320) ∧ ((p 320).cycle - 257) % 8 ∈ [1, 2, 3, 5, 7]) ∧
      (fetching (p 261) ∧ ((p 261).cycle - 257) % 8 = 4 ∧ ((p 261).cycle - 257) / 8 < (p 261).evFound ∧
        (p 261).soam.read 2 = 0#8 ∧ 0 ≤ (p 261).scanline - (((p 261).soam.read 0).toNat : Int)) ∧
      (((p 263).cycle - 257) % 8 = 6 ∧ ((p 263).cycle - 257) / 8 < (p 263).evFound) ∧
      (((p 269).cycle - 257) % 8 = 4 ∧ ¬((p 269).cycle - 257) / 8 < (p 269).evFound) ∧
      (((p 271).cycle - 257) % 8 = 6 ∧ ¬((p 271).cycle - 257) / 8 < (p 271).evFound) ∧
      (¬fetching (p 321) ∧ ¬(PixelCycle 30 321 ∧ ((p 321).mask.getLsbD 3 || (p 321).mask.getLsbD 4) = true) ∧
        ¬((p 321).scanline = -1 ∧ (p 321).cycle = 1)) := by decide
/-- Slot 0 is transparent, slot 1 the first opaque one; column 0 with the left column shown, and column 8 with it clipped. -/
theorem test_meets_sprite_pixel :
    let clear : SpriteSlot := { lo := 0x80#8, hi := 0#8, attr := 0#8, x := 1#8 }
    let solid : SpriteSlot := { lo := 0x80#8, hi := 0#8, attr := 0#8, x := 0#8 }
    let p := { ppuAt 0 1 with mask := 0x1E#8, slots := [clear, solid] }
    let opaque8 := fun sl : SpriteSlot => sl.x = 0#8 ∧ (sl.hi.getLsbD 7 = true ∨ sl.lo.getLsbD 7 = true)
    (p.mask.getLsbD 4 = true ∧ (8 ≤ 0 ∨ p.mask.getLsbD 2 = true)) ∧ (p.mask.getLsbD 3 = true ∧ (8 ≤ 0 ∨ p.mask.getLsbD 1 = true)) ∧
      p.slots[1]? = some solid ∧ opaque8 solid ∧ (∀ j < 1, ∀ other, p.slots[j]? = some other → ¬opaque8 other) := by
  refine ⟨by decide, by decide, by decide, by decide, ?_⟩
  intro j hj other ho
  obtain rfl : j = 0 := by omega
  simp at ho
  subst ho
  decide
theorem test_meets_no_sprite_pixel :
    let p := { ppuAt 0 9 with mask := 0x10#8 }
    (p.mask.getLsbD 4 = true ∧ (8 ≤ 8 ∨ p.mask.getLsbD 2 = true)) ∧ ¬(p.mask.getLsbD 3 = true ∧ (8 ≤ 8 ∨ p.mask.getLsbD 1 = true)) ∧
      (∀ sl ∈ p.slots, ¬(sl.x = 0#8 ∧ (sl.hi.getLsbD 7 = true ∨ sl.lo.getLsbD 7 = true))) ∧
      ¬(p.mask.getLsbD 4 = true ∧ (8 ≤ 7 ∨ p.mask.getLsbD 2 = true)) := by decide
theorem test_meets_frame_even : (ppuAt (-1) 0).scanline = -1 ∧ (ppuAt (-1) 0).cycle = (if (ppuAt (-1) 0).oddFrame then 1 else 0) := by decide
theorem test_meets_frame_odd :
    let p := { ppuAt (-1) 1 with oddFrame := true }
    p.scanline = -1 ∧ p.cycle = (if p.oddFrame then 1 else 0) := by decide
theorem test_meets_blank_frame : ready.Inv ∧ ready.ppu.scanline = -1 ∧ ready.ppu.cycle = 0 ∧ ready.ppu.oddFrame = false ∧
    ready.ppu.mask = 0#8 ∧ ready.ppu.ctrl = 0#8 ∧ ready.ppu.nmiPending = false := ⟨test_meets_inv, by decide⟩
/-- A byte a store stores to, in each of the three plain memories, and one it does not. -/
theorem test_meets_stores :
    cpuCell ready.config 0x1810#16 = some (.ram, 0x10) ∧ cpuCell ready.config 0x4000#16 = some (.unmapped, 0x4000) ∧
      cpuCell { ready.config with mapper := .mapper1 } 0x7FFF#16 = some (.prgRam, 0x1FFF) ∧
      ¬WriteTouches ready 0x0010#16 .ram 0x11 ∧ ¬WriteTouches ready 0x2007#16 .oam 0 := by
  refine ⟨by decide, by decide, by decide, ?_, ?_⟩ <;> simp [WriteTouches] <;> decide
/-- A byte a push does not store to. -/
theorem test_meets_push_frame :
    ¬(Store.ram = .ram ∧ ∃ k < [0x77#8].length, 0x1FC = 256 + (ready.cpu.sp - BitVec.ofNat 8 k).toNat) := by decide
theorem test_meets_no_overflow :
    (match exec (.adcImm 1#8) ready with
      | .next t => flagV t.cpu.p
      | _ => true) = false ∧
    (match exec (.sbcAbs 0x0010#16) ready with
      | .next t => flagV t.cpu.p
      | _ => true) = false := by decide
theorem test_meets_jsr : ready.Inv ∧ ∃ t, exec (.jsr 0x1234#16) ready = .next t := ⟨test_meets_inv, _, rfl⟩
theorem test_meets_brk : ready.Inv ∧ ∃ t, exec .brk ready = .next t := ⟨test_meets_inv, _, rfl⟩
theorem test_meets_irq_gate : flagI ready.cpu.p = true ∧ flagI { ready.cpu with p := 0x00#8 }.p = false := by decide
theorem test_meets_host_quiet : ready.hostScript.headD [] = [] := by decide
theorem test_meets_host_acts :
    { ready with hostScript := [[.setButtons 1#8, .irq], [.reset]] }.hostScript = (.setButtons 1#8 :: [.irq]) :: [[.reset]] := by decide
theorem test_meets_owed_cycle : 0 < (ppuSteps 3 (hostBoundary State.reset)).cpu.debt := by decide
theorem test_meets_cpu_step : ∃ t, stepCpu (ppuSteps 3 (hostBoundary ready)) = .next t := ⟨_, rfl⟩
theorem test_meets_next_step : ready.Inv ∧ ∃ t, step ready = .next t := ⟨test_meets_inv, _, rfl⟩
/-- A step that the host's acts, an NMI request and an instruction all take part in. -/
theorem test_meets_busy_step :
    let s := { withPpu { ppuAt 241 0 with ctrl := 0x80#8 } with hostScript := [[.nmi, .setButtons 1#8]] }
    ∃ t, step s = .next t := ⟨_, rfl⟩
theorem test_meets_break_bits : SameButUB ready { ready with cpu := { ready.cpu with p := 0x04#8 } } := by
  refine ⟨rfl, fun k hk => ?_⟩
  fin_cases hk <;> decide

end Sys2Proof.Tests
end

namespace Sys2Proof.Machine

/-! # State: the meanings of instructions, said once

Every instruction either completes by one of the meanings of 41_load_store_transfer.md to 46_flags_nop_illegal.md or is an
undefined opcode byte. What holds of each meaning then holds of `exec`, with no second look at its arms. -/

/-- The byte-wide registers an instruction takes its argument from. -/
inductive Reg where
  | a
  | x
  | y
  | sp

/-- The content of a register. -/
def Reg.get (r : Reg) (c : Cpu) : Byte :=
  match r with
  | .a => c.a
  | .x => c.x
  | .y => c.y
  | .sp => c.sp

/-- The meanings of the defined instructions. `hk` names the bit of P that a flag instruction writes or a branch reads. -/
inductive Meaning : (State → State) → Prop
  | adc (op : Byte) (o : Operand) : Meaning (adc op o)
  | sbc (op : Byte) (o : Operand) : Meaning (sbc op o)
  | andA (op : Byte) (o : Operand) : Meaning (andA op o)
  | ora (op : Byte) (o : Operand) : Meaning (ora op o)
  | eor (op : Byte) (o : Operand) : Meaning (eor op o)
  | compare (op : Byte) (r : Reg) (o : Operand) : Meaning fun s => compareReg op (r.get s.cpu) o s
  | bitTest (op : Byte) (o : Operand) : Meaning (bitTest op o)
  | lda (op : Byte) (o : Operand) : Meaning (lda op o)
  | ldx (op : Byte) (o : Operand) : Meaning (ldx op o)
  | ldy (op : Byte) (o : Operand) : Meaning (ldy op o)
  | store (op : Byte) (m : MemOperand) (r : Reg) : Meaning fun s => store op m (r.get s.cpu) s
  | transferA (op : Byte) (r : Reg) : Meaning fun s => transferA op (r.get s.cpu) s
  | transferX (op : Byte) (r : Reg) : Meaning fun s => transferX op (r.get s.cpu) s
  | transferY (op : Byte) (r : Reg) : Meaning fun s => transferY op (r.get s.cpu) s
  | txs (op : Byte) : Meaning (txs op)
  | shiftA (op : Byte) (f : Byte → Bool → ShiftOut) : Meaning (shiftA op f)
  | shiftMem (op : Byte) (f : Byte → Bool → ShiftOut) (m : MemOperand) : Meaning (shiftMem op f m)
  | stepMem (op d : Byte) (m : MemOperand) : Meaning (stepMem op d m)
  | stepX (op d : Byte) : Meaning (stepX op d)
  | stepY (op d : Byte) : Meaning (stepY op d)
  | jump (op : Byte) (m : MemOperand) : Meaning (jump op m)
  | jsr (op : Byte) (w : Word) : Meaning (jsr op w)
  | rts (op : Byte) : Meaning (rts op)
  | branchSet (op : Byte) (k : Nat) (hk : k ∈ [0, 1, 6, 7]) (off : Byte) :
      Meaning fun s => branch op (s.cpu.p.getLsbD k) off s
  | branchClear (op : Byte) (k : Nat) (hk : k ∈ [0, 1, 6, 7]) (off : Byte) :
      Meaning fun s => branch op (!s.cpu.p.getLsbD k) off s
  | brk (op : Byte) : Meaning (brk op)
  | rti (op : Byte) : Meaning (rti op)
  | setFlag (op : Byte) (k : Nat) (hk : k < 8) (on : Bool) : Meaning fun s => setFlags op (setBit s.cpu.p k on) s
  | nop (op : Byte) : Meaning fun s => setFlags op s.cpu.p s
  | pha (op : Byte) : Meaning fun s => push op s.cpu.a s
  | php (op : Byte) : Meaning fun s => push op (pushedBySoftware s.cpu.p) s
  | pla (op : Byte) : Meaning (pla op)
  | plp (op : Byte) : Meaning (plp op)

/-- What `exec` can do: complete by the instruction's meaning, or raise the fault of an undefined opcode byte. -/
theorem exec_cases (i : Instr) :
    (∃ f, Meaning f ∧ ∀ s, exec i s = .next (f s)) ∨ ∃ op, ∀ s, exec i s = .fault (.illegalOpcode op s) := by
  cases i
  case adcIzx _ | adcZp _ | adcImm _ | adcAbs _ | adcIzy _ | adcZpx _ | adcAby _ | adcAbx _ =>
    exact .inl ⟨_, .adc _ _, fun _ => rfl⟩
  case sbcIzx _ | sbcZp _ | sbcImm _ | sbcAbs _ | sbcIzy _ | sbcZpx _ | sbcAby _ | sbcAbx _ =>
    exact .inl ⟨_, .sbc _ _, fun _ => rfl⟩
  case andIzx _ | andZp _ | andImm _ | andAbs _ | andIzy _ | andZpx _ | andAby _ | andAbx _ =>
    exact .inl ⟨_, .andA _ _, fun _ => rfl⟩
  case oraIzx _ | oraZp _ | oraImm _ | oraAbs _ | oraIzy _ | oraZpx _ | oraAby _ | oraAbx _ =>
    exact .inl ⟨_, .ora _ _, fun _ => rfl⟩
  case eorIzx _ | eorZp _ | eorImm _ | eorAbs _ | eorIzy _ | eorZpx _ | eorAby _ | eorAbx _ =>
    exact .inl ⟨_, .eor _ _, fun _ => rfl⟩
  case cmpIzx _ | cmpZp _ | cmpImm _ | cmpAbs _ | cmpIzy _ | cmpZpx _ | cmpAby _ | cmpAbx _ =>
    exact .inl ⟨_, .compare _ .a _, fun _ => rfl⟩
  case cpxImm _ | cpxZp _ | cpxAbs _ => exact .inl ⟨_, .compare _ .x _, fun _ => rfl⟩
  case cpyImm _ | cpyZp _ | cpyAbs _ => exact .inl ⟨_, .compare _ .y _, fun _ => rfl⟩
  case bitZp _ | bitAbs _ => exact .inl ⟨_, .bitTest _ _, fun _ => rfl⟩
  case ldaIzx _ | ldaZp _ | ldaImm _ | ldaAbs _ | ldaIzy _ | ldaZpx _ | ldaAby _ | ldaAbx _ =>
    exact .inl ⟨_, .lda _ _, fun _ => rfl⟩
  case ldxImm _ | ldxZp _ | ldxAbs _ | ldxZpy _ | ldxAby _ => exact .inl ⟨_, .ldx _ _, fun _ => rfl⟩
  case ldyImm _ | ldyZp _ | ldyAbs _ | ldyZpx _ | ldyAbx _ => exact .inl ⟨_, .ldy _ _, fun _ => rfl⟩
  case staIzx _ | staZp _ | staAbs _ | staIzy _ | staZpx _ | staAby _ | staAbx _ =>
    exact .inl ⟨_, .store _ _ .a, fun _ => rfl⟩
  case stxZp _ | stxAbs _ | stxZpy _ => exact .inl ⟨_, .store _ _ .x, fun _ => rfl⟩
  case styZp _ | styAbs _ | styZpx _ => exact .inl ⟨_, .store _ _ .y, fun _ => rfl⟩
  case txa => exact .inl ⟨_, .transferA _ .x, fun _ => rfl⟩
  case tya => exact .inl ⟨_, .transferA _ .y, fun _ => rfl⟩
  case tax => exact .inl ⟨_, .transferX _ .a, fun _ => rfl⟩
  case tsx => exact .inl ⟨_, .transferX _ .sp, fun _ => rfl⟩
  case tay => exact .inl ⟨_, .transferY _ .a, fun _ => rfl⟩
  case txs => exact .inl ⟨_, .txs _, fun _ => rfl⟩
  case aslAcc | lsrAcc | rolAcc | rorAcc => exact .inl ⟨_, .shiftA _ _, fun _ => rfl⟩
  case aslZp _ | aslAbs _ | aslZpx _ | aslAbx _ | lsrZp _ | lsrAbs _ | lsrZpx _ | lsrAbx _ | rolZp _ | rolAbs _ | rolZpx _ |
      rolAbx _ | rorZp _ | rorAbs _ | rorZpx _ | rorAbx _ =>
    exact .inl ⟨_, .shiftMem _ _ _, fun _ => rfl⟩
  case incZp _ | incAbs _ | incZpx _ | incAbx _ | decZp _ | decAbs _ | decZpx _ | decAbx _ =>
    exact .inl ⟨_, .stepMem _ _ _, fun _ => rfl⟩
  case inx | dex => exact .inl ⟨_, .stepX _ _, fun _ => rfl⟩
  case iny | dey => exact .inl ⟨_, .stepY _ _, fun _ => rfl⟩
  case jmpAbs _ | jmpInd _ => exact .inl ⟨_, .jump _ _, fun _ => rfl⟩
  case jsr _ => exact .inl ⟨_, .jsr _ _, fun _ => rfl⟩
  case rts => exact .inl ⟨_, .rts _, fun _ => rfl⟩
  case bcs off => exact .inl ⟨_, .branchSet _ 0 (by decide) off, fun _ => rfl⟩
  case beq off => exact .inl ⟨_, .branchSet _ 1 (by decide) off, fun _ => rfl⟩
  case bvs off => exact .inl ⟨_, .branchSet _ 6 (by decide) off, fun _ => rfl⟩
  case bmi off => exact .inl ⟨_, .branchSet _ 7 (by decide) off, fun _ => rfl⟩
  case bcc off => exact .inl ⟨_, .branchClear _ 0 (by decide) off, fun _ => rfl⟩
  case bne off => exact .inl ⟨_, .branchClear _ 1 (by decide) off, fun _ => rfl⟩
  case bvc off => exact .inl ⟨_, .branchClear _ 6 (by decide) off, fun _ => rfl⟩
  case bpl off => exact .inl ⟨_, .branchClear _ 7 (by decide) off, fun _ => rfl⟩
  case brk => exact .inl ⟨_, .brk _, fun _ => rfl⟩
  case rti => exact .inl ⟨_, .rti _, fun _ => rfl⟩
  case clc => exact .inl ⟨_, .setFlag _ 0 (by decide) false, fun _ => rfl⟩
  case sec => exact .inl ⟨_, .setFlag _ 0 (by decide) true, fun _ => rfl⟩
  case cli => exact .inl ⟨_, .setFlag _ 2 (by decide) false, fun _ => rfl⟩
  case sei => exact .inl ⟨_, .setFlag _ 2 (by decide) true, fun _ => rfl⟩
  case cld => exact .inl ⟨_, .setFlag _ 3 (by decide) false, fun _ => rfl⟩
  case sed => exact .inl ⟨_, .setFlag _ 3 (by decide) true, fun _ => rfl⟩
  case clv => exact .inl ⟨_, .setFlag _ 6 (by decide) false, fun _ => rfl⟩
  case nop => exact .inl ⟨_, .nop _, fun _ => rfl⟩
  case pha => exact .inl ⟨_, .pha _, fun _ => rfl⟩
  case php => exact .inl ⟨_, .php _, fun _ => rfl⟩
  case pla => exact .inl ⟨_, .pla _, fun _ => rfl⟩
  case plp => exact .inl ⟨_, .plp _, fun _ => rfl⟩
  all_goals exact .inr ⟨_, fun _ => rfl⟩

/-! ## What instructions, exceptions and the host's acts are made of -/

/-- `t` comes from `s` by bus reads, bus writes, changes of the CPU's registers, and the host's input. -/
inductive Activity (s : State) : State → Prop
  | refl : Activity s s
  | cpu {t : State} (c : Cpu) : Activity s t → Activity s { t with cpu := c }
  | reads {t u : State} : Activity s t → OnlyReadEffects t u → Activity s u
  | write {t : State} (a : Word) (v : Byte) : Activity s t → Activity s (memWrite t a v)
  | host {t : State} (b : Byte) (l : List (List HostEvent)) : Activity s t → Activity s { t with buttons := b, hostScript := l }

section
variable {s t : State}

theorem OnlyRegisterState.nmiPending {p q : Ppu} (h : OnlyRegisterState p q) : q.nmiPending = p.nmiPending := by rw [h]

/-- No activity of the CPU or the host writes the cartridge, counts the clock, or requests an NMI (R30, R50, 60_exceptions.md R347). -/
theorem Activity.frame (h : Activity s t) :
    t.config = s.config ∧ t.sysclk = s.sysclk ∧ t.ppu.nmiPending = s.ppu.nmiPending := by
  induction h with
  | refl => exact ⟨rfl, rfl, rfl⟩
  | cpu _ _ ih => exact ih
  | reads _ e ih => rwa [e.config, e.sysclk, e.registers.nmiPending]
  | write a v _ ih =>
    obtain ⟨hconfig, -, hsysclk, -⟩ := memWrite_frame _ a v
    rwa [hconfig, hsysclk, (memWrite_registers _ a v).nmiPending]
  | host _ _ _ ih => exact ih

/-- Every activity of the CPU or the host keeps the invariant (R51). -/
theorem Activity.inv (h : Activity s t) (hs : s.Inv) : t.Inv := by
  induction h with
  | refl => exact hs
  | cpu _ _ ih => exact ih.congr rfl rfl rfl rfl rfl
  | reads _ e ih => exact e.inv ih
  | write a v _ ih => exact memWrite_inv _ a v ih
  | host _ _ _ ih => exact ih.congr rfl rfl rfl rfl rfl

theorem Activity.read (h : Activity s t) (a : Word) : Activity s (memRead t a).state := h.reads (memRead_effects t a)

theorem Activity.push8 (h : Activity s t) (v : Byte) : Activity s (push8 t v) := (h.write _ v).cpu _

theorem Activity.pop8 (h : Activity s t) : Activity s (pop8 t).state := (h.cpu _).read _

theorem Activity.loadVector (h : Activity s t) (vec : Word) : Activity s (loadVector t vec) := ((h.read _).read _).cpu _

theorem Activity.enterVector (h : Activity s t) (f : Byte) (vec : Word) : Activity s (enterVector t f vec) :=
  ((((h.push8 _).push8 _).push8 _).cpu _).loadVector vec

theorem Activity.interruptEntry (h : Activity s t) (vec : Word) : Activity s (interruptEntry t vec) :=
  (h.enterVector _ vec).cpu _

theorem Activity.fetch8 (h : Activity s t) : Activity s (fetch8 t).state := (h.read _).cpu _

theorem Activity.fetchBytes (n : Nat) (h : Activity s t) : Activity s (fetchBytes n t).state := by
  induction n generalizing t with
  | zero => exact h
  | succ n ih => exact ih h.fetch8

theorem Activity.fetch (h : Activity s t) : Activity s (fetch t).state := h.fetch8.fetchBytes _

theorem Activity.branch (h : Activity s t) (op : Byte) (cond : Bool) (off : Byte) : Activity s (branch op cond off t) := by
  cases cond <;> exact h.cpu _

/-- Every instruction that completes does so by such activity. -/
theorem Activity.meaning {f : State → State} (h : Activity s t) (hf : Meaning f) : Activity s (f t) := by
  cases hf
  case adc _ o | sbc _ o | andA _ o | ora _ o | eor _ o | compare _ _ o | bitTest _ o | lda _ o | ldx _ o | ldy _ o =>
    exact (h.reads (readOperand_effects o t)).cpu _
  case store _ m _ => exact ((h.reads (address_effects m t)).write _ _).cpu _
  case transferA | transferX | transferY | txs | shiftA | stepX | stepY | setFlag | nop => exact h.cpu _
  case shiftMem _ _ m | stepMem _ _ m => exact ((((h.reads (address_effects m t)).read _).cpu _).write _ _).cpu _
  case jump _ m => exact (h.reads (address_effects m t)).cpu _
  case jsr => exact ((h.push8 _).push8 _).cpu _
  case rts => exact h.pop8.pop8.cpu _
  case branchSet | branchClear => exact h.branch _ _ _
  case brk => exact ((h.cpu _).enterVector _ _).cpu _
  case rti => exact ((h.pop8.cpu _).pop8.pop8.cpu _).cpu _
  case pha | php => exact (h.push8 _).cpu _
  case pla | plp => exact h.pop8.cpu _

theorem Activity.exec {i : Instr} {u : State} (h : Activity s t) (hu : exec i t = .next u) : Activity s u := by
  obtain ⟨f, hf, e⟩ | ⟨op, e⟩ := exec_cases i <;> rw [e] at hu <;> cases hu
  exact h.meaning hf

theorem Activity.cpuIrq (h : Activity s t) : Activity s (cpuIrq t) := by
  unfold Machine.cpuIrq
  split
  · exact h
  · exact h.interruptEntry vecIrq

theorem Activity.hostAct (h : Activity s t) (e : HostEvent) : Activity s (hostAct t e) := by
  cases e with
  | irq => exact h.cpuIrq
  | nmi => exact h.interruptEntry vecNmi
  | reset => exact ((h.cpu _).loadVector vecReset).cpu _
  | setButtons b => exact h.host b t.hostScript

theorem Activity.hostBoundary (s : State) : Activity s (hostBoundary s) := by
  have acts : ∀ (l : List HostEvent) (t : State), Activity s t → Activity s (l.foldl Machine.hostAct t) := by
    intro l
    induction l with
    | nil => exact fun _ h => h
    | cons e rest ih => exact fun t h => ih _ (h.hostAct e)
  exact acts _ _ (Activity.refl.host s.buttons _)

end

/-! ## What a step can do -/

/-- The next state of an outcome that `thenNext` passes on. -/
theorem thenNext_eq_next {r : Result} {f : State → State} {t : State} (h : thenNext r f = .next t) :
    ∃ u, r = .next u ∧ t = f u := by
  cases r with
  | next u => exact ⟨u, rfl, by cases h; rfl⟩
  | fault _ => cases h
  | refused _ => cases h

theorem stepCpu_activity {s t : State} (h : stepCpu s = .next t) : Activity s t := by
  unfold stepCpu at h
  split at h
  · obtain ⟨u, hu, rfl⟩ := thenNext_eq_next h
    exact (Activity.refl.fetch.exec hu).cpu _
  · cases h
    exact Activity.refl.cpu _

/-- A step that answers a next state: the host's acts, three PPU cycles, the CPU's cycle, the end of the tick
(70_reset_and_hazards.md R391, R392). -/
theorem step_next {s t : State} (h : step s = .next t) :
    ∃ u, Activity (ppuSteps 3 (hostBoundary s)) u ∧ t = endTick u := by
  obtain ⟨u, hu, rfl⟩ := thenNext_eq_next h
  exact ⟨u, stepCpu_activity hu, rfl⟩

/-- PPU cycles write neither the cartridge nor the clock (48_ppu_pipeline.md R331). -/
theorem ppuSteps_frame (n : Nat) (s : State) :
    (ppuSteps n s).config = s.config ∧ (ppuSteps n s).sysclk = s.sysclk := by
  induction n generalizing s with
  | zero => exact ⟨rfl, rfl⟩
  | succ n ih => exact ih (stepPpu s)

theorem ppuSteps_inv (n : Nat) {s : State} (h : s.Inv) : (ppuSteps n s).Inv := by
  induction n generalizing s with
  | zero => exact h
  | succ n ih => exact ih ⟨ppuCycle_inv _ _ _ h.ppu, h.ram, h.unmapped, h.prgRam, h.chrRam⟩

/-- The end of a tick leaves no NMI request pending, whether it delivered one or found none (60_exceptions.md R347). -/
theorem endTick_frame (s : State) :
    (endTick s).config = s.config ∧ (endTick s).sysclk = s.sysclk + 1 ∧ (endTick s).ppu.nmiPending = false := by
  unfold endTick deliverNmi
  split
  · exact (Activity.refl.interruptEntry vecNmi).frame
  · rename_i h
    exact ⟨rfl, rfl, by simpa using h⟩

theorem Ppu.Inv.withNmiPending {p : Ppu} (h : p.Inv) (b : Bool) : { p with nmiPending := b }.Inv := { h with }

theorem endTick_inv {s : State} (h : s.Inv) : (endTick s).Inv := by
  unfold endTick deliverNmi
  split
  · exact (Activity.refl.interruptEntry vecNmi).inv ⟨h.ppu.withNmiPending false, h.ram, h.unmapped, h.prgRam, h.chrRam⟩
  · exact h.congr rfl rfl rfl rfl rfl

/-! ## The statements about every step -/

/-- Settles O55: the CPU and the host write neither clock, cartridge nor request; the end of the tick counts and delivers. -/
theorem everyStepCountsDeliversAndKeepsTheCartridge : Obligations.EveryStepCountsDeliversAndKeepsTheCartridge := by
  intro s t h
  obtain ⟨u, hu, rfl⟩ := step_next h
  obtain ⟨endConfig, endClock, endNmi⟩ := endTick_frame u
  obtain ⟨cpuConfig, cpuClock, -⟩ := hu.frame
  obtain ⟨ppuConfig, ppuClock⟩ := ppuSteps_frame 3 (hostBoundary s)
  obtain ⟨hostConfig, hostClock, -⟩ := (Activity.hostBoundary s).frame
  exact ⟨by rw [endClock, cpuClock, ppuClock, hostClock], endNmi, by rw [endConfig, cpuConfig, ppuConfig, hostConfig]⟩

/-- Settles O56: the host's acts, the PPU's cycles, the CPU's cycle and the end of the tick each keep the invariant. -/
theorem stepKeepsTheInvariant : Obligations.StepKeepsTheInvariant := by
  intro s t hs h
  obtain ⟨u, hu, rfl⟩ := step_next h
  have atBoundary : (hostBoundary s).Inv := (Activity.hostBoundary s).inv hs
  exact endTick_inv (hu.inv (ppuSteps_inv 3 atBoundary))

/-- A PPU at power-on meets its invariant, whatever the launch left open (10_state.md R49): its evaluation is done. -/
theorem ppuPowerOn_inv : Ppu.powerOn.Inv where
  oam := rfl
  soam := rfl
  nt := rfl
  pal := rfl
  framebuffer := rfl
  slots := rfl
  cycle := by decide
  scanlineLow := by decide
  scanlineHigh := by decide
  found := by decide
  scan := nofun
  copy := nofun

/-- Settles O57: empty memories are in canonical form, and the PPU is at power-on. -/
theorem resetMeetsTheInvariant : Obligations.ResetMeetsTheInvariant :=
  ⟨ppuPowerOn_inv, rfl, rfl, rfl, rfl⟩

end Sys2Proof.Machine

namespace Sys2Proof.Machine

/-! # Bits 5 and 4 of the stored P (10_state.md R52)

A state that differs from `s` in those bits alone is `setP s q` for some `q` with the visible flags of `s`. What is moved over
the bus never depends on P, so `setP` commutes with it; what an instruction computes from P depends on the visible flags. -/

/-! ## P does not matter to the bus -/

section
variable (s : State) (q : Byte)

theorem memRead_setP (a : Word) :
    memRead (setP s q) a = { value := (memRead s a).value, state := setP (memRead s a).state q } := by
  simp only [setP, memRead_withCpu, memRead_cpu]

theorem memWrite_setP (a : Word) (v : Byte) : memWrite (setP s q) a v = setP (memWrite s a v) q := by
  simp only [setP, memWrite_withCpu, memWrite_cpu]

theorem readPointer_setP (l h : Word) :
    readPointer (setP s q) l h = { readPointer s l h with state := setP (readPointer s l h).state q } := by
  simp only [readPointer, memRead_setP]

theorem address_setP (m : MemOperand) : address m (setP s q) = { address m s with state := setP (address m s).state q } := by
  cases m
  case ind w => exact readPointer_setP s q _ _
  case izx z => exact readPointer_setP s q _ _
  case izy z => simp only [address, postIndexed, readPointer_setP, indexed, setP_y]
  all_goals rfl

theorem readOperand_setP (o : Operand) :
    readOperand o (setP s q) = { readOperand o s with state := setP (readOperand o s).state q } := by
  cases o
  case mem m => simp only [readOperand, address_setP, memRead_setP]
  all_goals rfl

theorem push8_setP (v : Byte) : push8 (setP s q) v = setP (push8 s v) q := by
  simp only [push8_eq]
  rfl

theorem pop8_setP : pop8 (setP s q) = { pop8 s with state := setP (pop8 s).state q } := by
  simp only [pop8_eq]
  rfl

theorem push8_p (v : Byte) : (push8 s v).cpu.p = s.cpu.p := by rw [push8_eq]

theorem pop8_p : (pop8 s).state.cpu.p = s.cpu.p := by rw [pop8_eq, setSp_p]

theorem loadVector_setP (vec : Word) : loadVector (setP s q) vec = setP (loadVector s vec) q := by
  simp only [loadVector, memRead_setP]
  rfl

theorem fetch8_setP : fetch8 (setP s q) = { fetch8 s with state := setP (fetch8 s).state q } := by
  simp only [fetch8, setP_pc, memRead_setP]
  rfl

theorem fetchBytes_setP (n : Nat) : fetchBytes n (setP s q) = { fetchBytes n s with state := setP (fetchBytes n s).state q } := by
  induction n generalizing s with
  | zero => rfl
  | succ n ih => simp only [fetchBytes, fetch8_setP, ih]

theorem fetch_setP : fetch (setP s q) = { fetch s with state := setP (fetch s).state q } := by
  simp only [fetch, fetch8_setP, fetchBytes_setP]

end

/-! ## The visible flags -/

/-- Two flag bytes that agree but for U and B. -/
abbrev SameVisible (p q : Byte) : Prop := SameFlags [0, 1, 2, 3, 6, 7] p q

section
variable {l : List Nat} {p q : Byte}

/-- A bit set to one value in two flag bytes keeps what they agree on. -/
theorem SameFlags.setBit (h : SameFlags l p q) (k : Nat) (on : Bool) (hk : k < 8) :
    SameFlags l (setBit p k on) (setBit q k on) := fun j hj => by
  rw [getLsbD_setBit _ _ _ _ hk, getLsbD_setBit _ _ _ _ hk, h j hj]

theorem SameFlags.setZN (h : SameFlags l p q) (v : Byte) : SameFlags l (setZN p v) (setZN q v) :=
  (h.setBit 1 _ (by decide)).setBit 7 _ (by decide)

theorem SameFlags.addFlags (h : SameFlags l p q) (a m : Byte) (c : Bool) : SameFlags l (addFlags p a m c) (addFlags q a m c) :=
  ((h.setBit 0 _ (by decide)).setBit 6 _ (by decide)).setZN _

theorem SameFlags.compareFlags (h : SameFlags l p q) (r m : Byte) : SameFlags l (compareFlags p r m) (compareFlags q r m) :=
  ((h.setBit 0 _ (by decide)).setBit 1 _ (by decide)).setBit 7 _ (by decide)

theorem SameFlags.bitFlags (h : SameFlags l p q) (a m : Byte) : SameFlags l (bitFlags p a m) (bitFlags q a m) :=
  ((h.setBit 1 _ (by decide)).setBit 7 _ (by decide)).setBit 6 _ (by decide)

theorem SameFlags.shiftFlags (h : SameFlags l p q) (r : ShiftOut) : SameFlags l (shiftFlags p r) (shiftFlags q r) :=
  (h.setBit 0 _ (by decide)).setZN _

/-- PLP takes every visible flag from the popped byte. -/
theorem plpFlags_sameVisible (p q b : Byte) : SameVisible (plpFlags p b) (plpFlags q b) := fun k hk => by
  rw [(plpFlags_flags p b).1 k hk, (plpFlags_flags q b).1 k hk]

/-- The byte a push makes of P is determined by the visible flags. -/
theorem PushedFlags.unique {f g : Byte} {b : Bool} (hf : PushedFlags p f b) (hg : PushedFlags q g b) (h : SameVisible p q) :
    g = f := by
  obtain ⟨f5, f4, fv⟩ := hf
  obtain ⟨g5, g4, gv⟩ := hg
  apply BitVec.eq_of_getLsbD_eq
  intro k hk
  by_cases hv : k ∈ [0, 1, 2, 3, 6, 7]
  · rw [fv k hv, gv k hv, h k hv]
  · obtain rfl | rfl : k = 4 ∨ k = 5 := by simp at hv; omega
    · rw [f4, g4]
    · rw [f5, g5]

theorem SameFlags.pushedBySoftware (h : SameVisible p q) : pushedBySoftware q = pushedBySoftware p :=
  (pushedBySoftware_flags p).unique (pushedBySoftware_flags q) h

theorem SameFlags.pushedByInterrupt (h : SameVisible p q) : pushedByInterrupt q = pushedByInterrupt p :=
  (pushedByInterrupt_flags p).unique (pushedByInterrupt_flags q) h

theorem SameFlags.flagC (h : SameVisible p q) : flagC q = flagC p := h 0 (by decide)

theorem SameFlags.flagI (h : SameVisible p q) : flagI q = flagI p := h 2 (by decide)

end

/-! ## Operations that do not let the two bits be seen -/

/-- The operation takes states that differ in U and B alone to states that differ in U and B alone. -/
def Blind (f : State → State) : Prop := ∀ s q, SameVisible s.cpu.p q → SameButUB (f s) (f (setP s q))

theorem SameButUB.exists_setP {s t : State} (h : SameButUB s t) : ∃ q, t = setP s q ∧ SameVisible s.cpu.p q := ⟨_, h⟩

theorem SameButUB.setP {s : State} {p q : Byte} (h : SameVisible p q) : SameButUB (setP s p) (setP s q) := ⟨rfl, h⟩

theorem Blind.apply {f : State → State} (hf : Blind f) {s t : State} (h : SameButUB s t) : SameButUB (f s) (f t) := by
  obtain ⟨q, rfl, hq⟩ := h.exists_setP
  exact hf s q hq

theorem Blind.comp {f g : State → State} (hg : Blind g) (hf : Blind f) : Blind fun s => g (f s) :=
  fun s q hq => hg.apply (hf s q hq)

/-- An operation that commutes with `setP` neither reads nor writes P. -/
theorem Blind.of_comm {f : State → State} (h : ∀ s q, f (setP s q) = setP (f s) q) : Blind f := by
  intro s q hq
  have kept : (f s).cpu.p = s.cpu.p := congrArg (fun t => t.cpu.p) (h s s.cpu.p)
  rw [h]
  exact ⟨rfl, by rwa [kept]⟩

/-- New flags computed from the old, by a function of the visible ones. -/
theorem Blind.flags {g : State → Byte} (hg : ∀ s q, SameVisible s.cpu.p q → SameVisible (g s) (g (setP s q))) :
    Blind fun s => setP s (g s) :=
  fun s q hq => ⟨rfl, hg s q hq⟩

theorem Blind.charge (op : Byte) (cross taken : Bool) : Blind (charge op cross taken) := .of_comm fun _ _ => rfl

/-! ## Every meaning is blind -/

theorem Reg.get_setP (r : Reg) (s : State) (q : Byte) : r.get (setP s q).cpu = r.get s.cpu := by cases r <;> rfl

/-- A meaning that reads its operand is as blind as what it does with the byte read. -/
theorem Blind.reading (op : Byte) (o : Operand) {g : Byte → State → State} (hg : ∀ v, Blind (g v)) :
    Blind fun s => Machine.charge op (readOperand o s).cross false (g (readOperand o s).value (readOperand o s).state) := by
  intro s q hq
  simp only [readOperand_setP]
  exact (Blind.charge op _ false).apply (hg _ _ q (by rwa [readOperand_cpu]))

theorem Blind.addToA (m : Byte) : Blind (addToA m) := by
  intro s q hq
  simp only [Machine.addToA, setP_p, hq.flagC]
  exact ⟨rfl, hq.addFlags _ _ _⟩

theorem Blind.branch (op : Byte) (cond : Bool) (off : Byte) : Blind (branch op cond off) :=
  .of_comm fun _ _ => by cases cond <;> rfl

theorem Blind.push (op v : Byte) : Blind (push op v) := .of_comm fun s q => by
  simp only [Machine.push, push8_setP]
  rfl

/-- Taking an exception sets `I` and leaves the other flags; the byte it pushes is given. -/
theorem Blind.enterVector (f : Byte) (vec : Word) : Blind fun s => enterVector s f vec := by
  intro s q hq
  simp only [Machine.enterVector, setP_pc, push8_setP, setP_p, loadVector_setP, push8_p]
  exact ⟨rfl, hq.setBit 2 true (by decide)⟩

/-- The flags a branch tests are visible. -/
theorem branchFlag_visible {k : Nat} (hk : k ∈ [0, 1, 6, 7]) : k ∈ [0, 1, 2, 3, 6, 7] := by
  simp at hk ⊢
  omega

/-- No instruction that completes lets the two bits be seen: flags computed from P depend on the visible ones alone. -/
theorem Meaning.blind {f : State → State} (hf : Meaning f) : Blind f := by
  cases hf
  case adc op o => exact .reading op o .addToA
  case sbc op o => exact .reading op o fun v => .addToA (v ^^^ 0xFF#8)
  case andA op o => exact .reading op o (g := fun v s => resultToA (s.cpu.a &&& v) s) fun _ _ _ hq => ⟨rfl, hq.setZN _⟩
  case ora op o => exact .reading op o (g := fun v s => resultToA (s.cpu.a ||| v) s) fun _ _ _ hq => ⟨rfl, hq.setZN _⟩
  case eor op o => exact .reading op o (g := fun v s => resultToA (s.cpu.a ^^^ v) s) fun _ _ _ hq => ⟨rfl, hq.setZN _⟩
  case bitTest op o => exact .reading op o fun v => .flags fun s q hq => hq.bitFlags s.cpu.a v
  case compare op r o =>
    intro s q hq
    simp only [Reg.get_setP]
    exact Blind.reading op o (fun v => .flags fun _ _ h => h.compareFlags (r.get s.cpu) v) s q hq
  case lda op o =>
    exact .reading op o (g := fun v s => setP (setA s v) (setZN s.cpu.p v)) fun _ _ _ hq => ⟨rfl, hq.setZN _⟩
  case ldx op o =>
    exact .reading op o (g := fun v s => setP (setX s v) (setZN s.cpu.p v)) fun _ _ _ hq => ⟨rfl, hq.setZN _⟩
  case ldy op o =>
    exact .reading op o (g := fun v s => setP (setY s v) (setZN s.cpu.p v)) fun _ _ _ hq => ⟨rfl, hq.setZN _⟩
  case store op m r =>
    refine .of_comm fun s q => ?_
    simp only [Machine.store, Reg.get_setP, address_setP, memWrite_setP]
    rfl
  case transferA | transferX | transferY =>
    intro s q hq
    simp only [Reg.get_setP]
    exact ⟨rfl, hq.setZN _⟩
  case txs => exact .of_comm fun _ _ => rfl
  case shiftA op f =>
    intro s q hq
    simp only [Machine.shiftA, setP_p, hq.flagC]
    exact ⟨rfl, hq.shiftFlags _⟩
  case shiftMem op f m =>
    intro s q hq
    simp only [Machine.shiftMem, address_setP, memRead_setP, memWrite_setP, setP_p, hq.flagC, memRead_cpu, address_cpu]
    exact ⟨rfl, hq.shiftFlags _⟩
  case stepMem op d m =>
    intro s q hq
    simp only [Machine.stepMem, address_setP, memRead_setP, memWrite_setP, setP_p, memRead_cpu, address_cpu]
    exact ⟨rfl, hq.setZN _⟩
  case stepX | stepY => exact fun s q hq => ⟨rfl, hq.setZN _⟩
  case jump op m =>
    refine .of_comm fun s q => ?_
    simp only [Machine.jump, address_setP]
    rfl
  case jsr op w =>
    refine .of_comm fun s q => ?_
    simp only [Machine.jsr, setP_pc, push8_setP]
    rfl
  case rts op =>
    refine .of_comm fun s q => ?_
    simp only [Machine.rts, pop8_setP]
    rfl
  case branchSet op k hk off | branchClear op k hk off =>
    intro s q hq
    simp only [setP_p, hq k (branchFlag_visible hk)]
    exact Blind.branch op _ off s q hq
  case brk op =>
    intro s q hq
    simp only [Machine.brk, setP_p, hq.pushedBySoftware]
    exact (Blind.charge op false false).apply (Blind.enterVector _ vecIrq (setPc s (s.cpu.pc + 1#16)) q hq)
  case rti op =>
    intro s q hq
    simp only [Machine.rti, returnFromInterrupt_eq]
    exact ⟨rfl, fun _ _ => rfl⟩
  case setFlag op k hk on => exact fun s q hq => ⟨rfl, hq.setBit k on hk⟩
  case nop => exact fun s q hq => ⟨rfl, hq⟩
  case pha op => exact fun s q hq => Blind.push op s.cpu.a s q hq
  case php op =>
    intro s q hq
    simp only [setP_p, hq.pushedBySoftware]
    exact Blind.push op _ s q hq
  case pla op =>
    intro s q hq
    simp only [Machine.pla, pop8_setP, pop8_p, setP_p]
    exact ⟨rfl, hq.setZN _⟩
  case plp op =>
    intro s q hq
    simp only [Machine.plp, pop8_setP, pop8_p, setP_p]
    exact ⟨rfl, plpFlags_sameVisible _ _ _⟩

/-! ## A step is blind -/

/-- A choice by a condition that does not depend on U and B. -/
theorem Blind.ite {c : State → Bool} {f g : State → State} (hc : ∀ s q, SameVisible s.cpu.p q → c (Machine.setP s q) = c s)
    (hf : Blind f) (hg : Blind g) : Blind fun s => if c s then f s else g s := by
  intro s q hq
  simp only [hc s q hq]
  split
  · exact hf s q hq
  · exact hg s q hq

theorem Blind.interruptEntry (vec : Word) : Blind fun s => interruptEntry s vec := by
  intro s q hq
  simp only [Machine.interruptEntry, setP_p, hq.pushedByInterrupt]
  exact (Blind.of_comm (f := fun s => setDebt s 7) fun _ _ => rfl).apply (Blind.enterVector _ vec s q hq)

theorem Blind.cpuIrq : Blind cpuIrq := .ite (fun _ _ hq => hq.flagI) (fun _ _ hq => ⟨rfl, hq⟩) (.interruptEntry vecIrq)

theorem Blind.hostAct (e : HostEvent) : Blind fun s => hostAct s e := by
  cases e with
  | irq => exact .cpuIrq
  | nmi => exact .interruptEntry vecNmi
  | reset => exact fun _ _ _ => ⟨rfl, fun _ _ => rfl⟩
  | setButtons b => exact .of_comm fun _ _ => rfl

theorem Blind.hostBoundary : Blind hostBoundary := by
  have acts : ∀ l : List HostEvent, Blind fun s => l.foldl Machine.hostAct s := by
    intro l
    induction l with
    | nil => exact .of_comm fun _ _ => rfl
    | cons e rest ih => exact ih.comp (.hostAct e)
  exact fun s q hq => acts (s.hostScript.headD []) { s with hostScript := s.hostScript.tail } q hq

theorem Blind.stepPpu : Blind stepPpu := .of_comm fun _ _ => rfl

theorem Blind.fetch : Blind fun s => (fetch s).state := .of_comm fun s q => by rw [fetch_setP]

theorem Blind.endTick : Blind endTick :=
  .ite (c := fun s => s.ppu.nmiPending) (fun _ _ _ => rfl)
    (.comp (.interruptEntry vecNmi) (.of_comm (f := fun s =>
      { s with sysclk := s.sysclk + 1, ppu := { s.ppu with nmiPending := false } }) fun _ _ => rfl))
    (.of_comm fun _ _ => rfl)

theorem OutcomesSameButUB.thenNext {r r' : Result} {f : State → State} (h : OutcomesSameButUB r r') (hf : Blind f) :
    OutcomesSameButUB (thenNext r f) (thenNext r' f) := by
  cases r with
  | next u =>
    cases r' with
    | next u' => exact hf.apply h
    | fault | refused => exact h.elim
  | fault =>
    cases r' with
    | fault => exact h
    | next | refused => exact h.elim
  | refused => exact h.elim

section
variable {s t : State} (h : SameButUB s t)
include h

theorem exec_sameButUB (i : Instr) : OutcomesSameButUB (exec i s) (exec i t) := by
  obtain ⟨f, hf, e⟩ | ⟨op, e⟩ := exec_cases i <;> rw [e, e]
  · exact hf.blind.apply h
  · exact ⟨rfl, h⟩

theorem stepCpu_sameButUB : OutcomesSameButUB (stepCpu s) (stepCpu t) := by
  have hfetch := Blind.fetch.apply h
  obtain ⟨q, rfl, hq⟩ := h.exists_setP
  have bytes : (fetch (setP s q)).bytes = (fetch s).bytes := by rw [fetch_setP]
  have paid : Blind payCycle := .of_comm fun _ _ => rfl
  simp only [stepCpu, setP_debt, bytes]
  split
  · exact (exec_sameButUB hfetch _).thenNext paid
  · exact paid s q hq

theorem systemTick_sameButUB : OutcomesSameButUB (systemTick s) (systemTick t) :=
  (stepCpu_sameButUB (Blind.stepPpu.apply (Blind.stepPpu.apply (Blind.stepPpu.apply h)))).thenNext .endTick

end

/-- Settles O59: the host's acts, the PPU's cycles, every meaning and the end of the tick are blind to bits 5 and 4. -/
theorem storedBreakBitsAreUnobservable : Obligations.StoredBreakBitsAreUnobservable :=
  fun _ _ h => systemTick_sameButUB (Blind.hostBoundary.apply h)

end Sys2Proof.Machine

namespace Sys2Proof.Machine

/-! # Memory: construction, the CPU bus, OAM-DMA and the PPU bus (20_memory.md) -/

/-! ## Construction (R95) -/

/-- The configuration `base` with cartridge `k` attached under mapper `m`. -/
def attachCartridge (base : Config) (k : Cartridge) (m : MapperId) : Config :=
  { base with
    prgBanks := k.prgBanks, chrBanks := k.chrBanks, mapper := m, mirroring := k.mirroring, prg := k.prg, chrRom := k.chrRom }

section
variable {base : Config} {k : Cartridge} {m : MapperId}

theorem constructConfig_of_unsupported (h : supportedMapper k.mapperId = none) : constructConfig base k = none := by
  simp only [constructConfig, h]

theorem constructConfig_of_supported (h : supportedMapper k.mapperId = some m) :
    constructConfig base k =
      if (attachCartridge base k m).wellFormed then some (attachCartridge base k m) else none := by
  simp only [constructConfig, h]
  rfl

theorem attachCartridge_wellFormed : (attachCartridge base k m).wellFormed = true ↔
    1 ≤ k.prgBanks ∧ k.prg.wfIn (16384 * k.prgBanks) = true ∧ k.chrRom.wfIn (8192 * k.chrBanks) = true ∧
      base.colorLut.wfIn 64 = true := by
  simp only [Config.wellFormed, Bool.and_eq_true, decide_eq_true_eq, and_assoc]
  rfl

theorem supportedMapper_eq_none {id : Nat} (h : 2 ≤ id) : supportedMapper id = none :=
  match id, h with
  | _ + 2, _ => rfl

theorem supportedMapper_eq_some {id : Nat} (h : id < 2) : ∃ m, supportedMapper id = some m ∧ (m = .mapper1 ↔ id = 1) :=
  match id, h with
  | 0, _ => ⟨.mapper0, rfl, by decide⟩
  | 1, _ => ⟨.mapper1, rfl, by decide⟩

end

/-- Settles O10: construction attaches the cartridge exactly when its mapper is supported and the result is well formed. -/
theorem constructionRefusesBadCartridges : Obligations.ConstructionRefusesBadCartridges := by
  intro base k
  refine ⟨fun h => constructConfig_of_unsupported (supportedMapper_eq_none h), fun h => ?_, fun hid hbanks hprg hchr hlut => ?_⟩
  · cases hm : supportedMapper k.mapperId with
    | none => exact constructConfig_of_unsupported hm
    | some m =>
      have refused : ¬(attachCartridge base k m).wellFormed = true := by
        rw [attachCartridge_wellFormed]
        omega
      rw [constructConfig_of_supported hm, if_neg refused]
  · obtain ⟨m, hm, hone⟩ := supportedMapper_eq_some hid
    refine ⟨attachCartridge base k m, ?_, rfl, rfl, rfl, rfl, rfl, hone, rfl, rfl, rfl, rfl⟩
    rw [constructConfig_of_supported hm, if_pos (attachCartridge_wellFormed.mpr ⟨hbanks, hprg, hchr, hlut⟩)]

/-! ## Where a bus access goes (R61, R62) -/

section
variable (s : State) {a : Word} (v : Byte)

theorem memRead_ram_eq (h : a.toNat ≤ 0x1FFF) : memRead s a = { value := byteAt s .ram (a.toNat % 2048), state := s } := by
  rw [memRead_plain s a (.inl h), plainByte, if_pos h]

theorem memWrite_ram_eq (h : a.toNat ≤ 0x1FFF) : memWrite s a v = putByte s .ram (a.toNat % 2048) v := by
  rw [memWrite, if_pos h]
  rfl

theorem memRead_controller : memRead s 0x4016#16 = controllerRead s := rfl

theorem memWrite_controller : memWrite s 0x4016#16 v = controllerWrite s v := rfl

theorem memWrite_dma (page : Byte) : memWrite s 0x4014#16 page = oamDma s page := rfl

section
variable (h : 0x2000 ≤ a.toNat) (h' : a.toNat ≤ 0x3FFF)
include h h'

theorem memRead_window : memRead s a = ppuRegRead s (a.setWidth 3) := by
  rw [memRead, if_neg (by omega), if_pos h']

theorem memWrite_window : memWrite s a v = ppuRegWrite s (a.setWidth 3) v := by
  rw [memWrite, if_neg (by omega), if_pos h']

theorem memRead_status (hr : a.toNat % 8 = 2) : memRead s a = readStatus s := by
  simp only [memRead_window s h h', ppuRegRead, setWidth3_toNat, hr]

theorem memRead_oamData (hr : a.toNat % 8 = 4) : memRead s a = readOamData s := by
  simp only [memRead_window s h h', ppuRegRead, setWidth3_toNat, hr]

theorem memRead_ppuData (hr : a.toNat % 8 = 7) : memRead s a = readPpuData s := by
  simp only [memRead_window s h h', ppuRegRead, setWidth3_toNat, hr]

theorem memRead_writeOnly (hr : a.toNat % 8 ∈ [0, 1, 3, 5, 6]) : memRead s a = readOpenBus s := by
  rw [memRead_window s h h', ppuRegRead, setWidth3_toNat]
  split
  · rename_i e
    simp [e] at hr
  · rename_i e
    simp [e] at hr
  · rename_i e
    simp [e] at hr
  · rfl

end

end

/-! ## Mirrors (R63, R64) -/

theorem and_low11_toNat (a : Word) : (a &&& 0x07FF#16).toNat = a.toNat % 2048 := by
  simp only [BitVec.toNat_and, BitVec.toNat_ofNat]
  exact Nat.and_two_pow_sub_one_eq_mod a.toNat 11

theorem registerAddress_toNat (a : Word) : (0x2000#16 + (a &&& 7#16)).toNat = 0x2000 + a.toNat % 8 := by
  have low : (a &&& 7#16).toNat = a.toNat % 8 := by
    simp only [BitVec.toNat_and, BitVec.toNat_ofNat]
    exact Nat.and_two_pow_sub_one_eq_mod a.toNat 3
  rw [BitVec.toNat_add, low, BitVec.toNat_ofNat]
  omega

/-- The register that an address of the PPU window selects is that of its lowest mirror. -/
theorem registerAddress_setWidth (a : Word) : (0x2000#16 + (a &&& 7#16)).setWidth 3 = a.setWidth 3 := by
  apply BitVec.eq_of_toNat_eq
  rw [setWidth3_toNat, setWidth3_toNat, registerAddress_toNat]
  omega

/-- Settles O11: RAM is indexed by the low 11 address bits, and the PPU window by the low 3. -/
theorem busMirroring : Obligations.BusMirroring := by
  intro s a v
  constructor
  · intro h
    have hm : (a &&& 0x07FF#16).toNat ≤ 0x1FFF := by
      rw [and_low11_toNat]
      omega
    rw [memRead_ram_eq s h, memRead_ram_eq s hm, memWrite_ram_eq s v h, memWrite_ram_eq s v hm, and_low11_toNat, Nat.mod_mod]
    exact ⟨rfl, rfl, rfl, rfl⟩
  · intro h h'
    have hr := registerAddress_toNat a
    have low : 0x2000 ≤ (0x2000#16 + (a &&& 7#16)).toNat := by omega
    have high : (0x2000#16 + (a &&& 7#16)).toNat ≤ 0x3FFF := by omega
    rw [memRead_window s h h', memRead_window s low high, memWrite_window s v h h', memWrite_window s v low high,
      registerAddress_setWidth]
    exact ⟨rfl, rfl⟩

/-! ## The cartridge (R74, R76 to R78) -/

section
variable (s : State) {a : Word} (v : Byte)

/-- The two ports lie below $6000. -/
theorem ne_ports (h : 0x6000 ≤ a.toNat) : a ≠ 0x4014#16 ∧ a ≠ 0x4016#16 := by
  constructor <;> (rintro rfl; simp at h)

section
variable (h : 0x8000 ≤ a.toNat)
include h

theorem memRead_rom :
    memRead s a = { value := s.config.prg.read ((a.toNat - 0x8000) % (16384 * s.config.prgBanks)), state := s } := by
  have plain : PlainRead a := .inr ⟨by omega, (ne_ports (by omega)).2⟩
  rw [memRead_plain s a plain, plainByte, if_neg (by omega), if_pos h]

theorem memWrite_rom : memWrite s a v = s := by
  obtain ⟨hd, hc⟩ : a ≠ 0x4014#16 ∧ a ≠ 0x4016#16 := ne_ports (by omega)
  rw [memWrite_plain s a v (by omega) hd hc, cpuCell, if_neg (by omega), if_neg (by omega), if_neg hd, if_neg hc, if_pos h]

/-- A 16 KB ROM stands at $8000 and again at $C000. -/
theorem memRead_rom_oneBank (hb : s.config.prgBanks = 1) (hlow : a.toNat < 0xC000) :
    memRead s (a + 0x4000#16) = memRead s a := by
  have ha : (a + 0x4000#16).toNat = a.toNat + 0x4000 := by
    rw [BitVec.toNat_add, BitVec.toNat_ofNat]
    omega
  have same : (a.toNat + 0x4000 - 0x8000) % 16384 = (a.toNat - 0x8000) % 16384 := by omega
  rw [memRead_rom s (by omega), memRead_rom s h, ha, hb, Nat.mul_one, same]

/-- A 32 KB ROM stands at $8000 once. -/
theorem memRead_rom_twoBanks (hb : s.config.prgBanks = 2) : (memRead s a).value = s.config.prg.read (a.toNat - 0x8000) := by
  have inside : (a.toNat - 0x8000) % (16384 * 2) = a.toNat - 0x8000 := by
    have := a.isLt
    omega
  rw [memRead_rom s h, hb, inside]

end

section
variable (hm : s.config.mapper = .mapper1) (h : 0x6000 ≤ a.toNat) (h' : a.toNat ≤ 0x7FFF)
include hm h h'

theorem memRead_prgRam : memRead s a = { value := byteAt s .prgRam (a.toNat - 0x6000), state := s } := by
  have plain : PlainRead a := .inr ⟨by omega, (ne_ports h).2⟩
  rw [memRead_plain s a plain, plainByte, if_neg (by omega), if_neg (by omega), if_pos ⟨hm, h⟩]

theorem memWrite_prgRam : memWrite s a v = putByte s .prgRam (a.toNat - 0x6000) v := by
  obtain ⟨hd, hc⟩ := ne_ports h
  rw [memWrite_plain s a v (by omega) hd hc, cpuCell, if_neg (by omega), if_neg (by omega), if_neg hd, if_neg hc,
    if_neg (by omega), if_pos ⟨hm, h⟩]

end

section
variable (h : 0x4000 ≤ a.toNat) (h' : a.toNat ≤ 0x7FFF) (hm : s.config.mapper = .mapper1 → a.toNat < 0x6000) (hc : a ≠ 0x4016#16)
include h h' hm hc

theorem memRead_unmapped : memRead s a = { value := byteAt s .unmapped a.toNat, state := s } := by
  have outside : ¬(s.config.mapper = .mapper1 ∧ 0x6000 ≤ a.toNat) := fun ⟨e, l⟩ => Nat.not_le_of_lt (hm e) l
  rw [memRead_plain s a (.inr ⟨h, hc⟩), plainByte, if_neg (by omega), if_neg (by omega), if_neg outside]

theorem memWrite_unmapped (hd : a ≠ 0x4014#16) : memWrite s a v = putByte s .unmapped a.toNat v := by
  have outside : ¬(s.config.mapper = .mapper1 ∧ 0x6000 ≤ a.toNat) := fun ⟨e, l⟩ => Nat.not_le_of_lt (hm e) l
  rw [memWrite_plain s a v (by omega) hd hc, cpuCell, if_neg (by omega), if_neg (by omega), if_neg hd, if_neg hc,
    if_neg (by omega), if_neg outside]

end

/-- Over character ROM a PPU bus write finds no byte to write. -/
theorem ppuWrite_chrRom (h : a.toNat ≤ 0x1FFF) (hb : s.config.chrBanks ≠ 0) : ppuWrite s a v = s := by
  have low : a.toNat % 16384 ≤ 0x1FFF := by omega
  have rom : ppuCell s.config a = none := by
    simp only [ppuCell, low, hb, if_true, if_false]
  rw [ppuWrite_cell, rom]

end

/-- Settles O12: each range of the map by its own rule. -/
theorem cartridgeOnTheCpuBus : Obligations.CartridgeOnTheCpuBus :=
  fun s _ v =>
    ⟨fun h => ⟨memRead_rom s h, memWrite_rom s v h⟩,
      fun hb h hlow => memRead_rom_oneBank s h hb hlow,
      fun hb h => memRead_rom_twoBanks s h hb,
      fun hm h h' => ⟨memRead_prgRam s hm h h', memWrite_prgRam s v hm h h'⟩,
      fun h h' hm hc => ⟨memRead_unmapped s h h' hm hc, memWrite_unmapped s v h h' hm hc⟩,
      ppuWrite_chrRom s v⟩

/-! ## Side effects (R87) -/

/-- Settles O13: a plain read has no effect; each of the other reads has that of its register. -/
theorem busSideEffects : Obligations.BusSideEffects := by
  intro s a
  refine ⟨fun h => ?_, fun h h' => ⟨fun hr => ?_, fun hr => ?_, fun hr => ?_, fun hr => ?_⟩, ⟨_, rfl⟩,
    fun hw hd hc v => memWrite_plain s a v hw hd hc⟩
  · have idle : (memRead s a).state = s := by rw [memRead_plain s a h]
    exact ⟨idle, by rw [idle]⟩
  · exact ⟨_, by rw [memRead_status s h h' hr]; rfl⟩
  · rw [memRead_oamData s h h' hr]
    rfl
  · exact ⟨_, by rw [memRead_ppuData s h h' hr]; rfl⟩
  · exact ⟨_, by rw [memRead_writeOnly s h h' hr]; rfl⟩

/-! ## The controller port (R66, R67) -/

/-- The byte a read of the port gives: CTRL_TOP3 in bits 7:5, bit 0 of the latch in bit 0. -/
theorem controllerRead_value_toNat (s : State) :
    (controllerRead s).value.toNat = 32 * s.config.ctrlTop3.toNat + (s.ctrlLatch.getLsbD 0).toNat := by
  have key : ∀ (t : BitVec 3) (b : Bool), ((t.setWidth 8 <<< 5) ||| (BitVec.ofBool b).setWidth 8).toNat = 32 * t.toNat + b.toNat := by
    decide
  rw [controllerRead, BitVec.and_one_eq_setWidth_ofBool_getLsbD, key]

theorem getLsbD_rotateLeft_one (b : Byte) {k : Nat} (hk : k < 8) : (b.rotateLeft 1).getLsbD k = b.getLsbD ((k + 7) % 8) := by
  rw [BitVec.getLsbD_rotateLeft_of_le (by decide)]
  by_cases h : k < 1
  · have index : 8 - 1 + k = (k + 7) % 8 := by omega
    simp only [h, decide_true, cond_true, index]
  · have index : k - 1 = (k + 7) % 8 := by omega
    simp only [h, hk, decide_true, decide_false, cond_false, Bool.true_and, index]

theorem controllerRead_bit (s : State) : (controllerRead s).value.getLsbD 0 = s.ctrlLatch.getLsbD 0 := by
  simp [controllerRead]

/-- Bit `k` of the latch after `n` reads of the port. -/
theorem latch_after_reads (s : State) (n : Nat) {k : Nat} (hk : k < 8) :
    (Nat.repeat (fun u => (memRead u 0x4016#16).state) n s).ctrlLatch.getLsbD k = s.ctrlLatch.getLsbD ((k + 7 * n) % 8) := by
  induction n generalizing k with
  | zero => rw [Nat.mul_zero, Nat.add_zero, Nat.mod_eq_of_lt hk]; rfl
  | succ n ih =>
    have index : ((k + 7) % 8 + 7 * n) % 8 = (k + 7 * (n + 1)) % 8 := by omega
    rw [← index, ← ih (Nat.mod_lt _ (by decide)), ← getLsbD_rotateLeft_one _ hk]
    rfl

/-- Settles O14: a read rotates the latch left by one, so `n` reads bring bit `-n` modulo 8 down to bit 0. -/
theorem controllerPort : Obligations.ControllerPort := by
  intro s v
  refine ⟨controllerRead_value_toNat s, ⟨_, rfl, fun k hk => getLsbD_rotateLeft_one _ hk⟩, rfl, fun n => ?_⟩
  have index : (8 - n % 8) % 8 = (0 + 7 * n) % 8 := by omega
  rw [memRead_controller, controllerRead_bit, latch_after_reads s n (by decide), index]

/-! ## OAM-DMA (R72) -/

/-- The state after the first `n` transfers of OAM-DMA. -/
def dmaAfter (page : Byte) (s : State) (n : Nat) : State := (List.range n).foldl (oamDmaByte page) s

section
variable (page : Byte) (s : State)

theorem dmaAfter_succ (n : Nat) : dmaAfter page s (n + 1) = oamDmaByte page (dmaAfter page s n) n := by
  rw [dmaAfter, List.range_succ, List.foldl_append]
  rfl

theorem dmaAfter_effects (n : Nat) : DmaEffects s (dmaAfter page s n) := foldl_oamDma_effects page _ s

theorem dmaAfter_oamaddr (n : Nat) : (dmaAfter page s n).ppu.oamaddr = s.ppu.oamaddr := (dmaAfter_effects page s n).oamaddr

theorem DmaEffects.plainByte_eq {s t : State} (h : DmaEffects s t) (a : Word) : plainByte t a = plainByte s a := by
  unfold DmaEffects OnlyReadEffects at h
  rw [h]
  rfl

theorem dmaAfter_inv (n : Nat) (h : s.Inv) : (dmaAfter page s n).Inv := by
  induction n with
  | zero => exact h
  | succ n ih =>
    rw [dmaAfter_succ]
    exact oamDmaByte_inv page _ n ih

/-- One transfer: a bus read, and its byte to OAM, counted from an `oamaddr` that does not move. -/
theorem dmaAfter_transfer (n : Nat) :
    dmaAfter page s (n + 1) = putByte (memRead (dmaAfter page s n) (word page (BitVec.ofNat 8 n))).state .oam
      ((s.ppu.oamaddr.toNat + n) % 256) (memRead (dmaAfter page s n) (word page (BitVec.ofNat 8 n))).value := by
  rw [dmaAfter_succ, ← dmaAfter_oamaddr page s n, ← memRead_oamaddr (dmaAfter page s n) (word page (BitVec.ofNat 8 n))]
  rfl

/-- A write to $4014: the 256 transfers, and their cycles. -/
theorem memWrite_dma_eq : memWrite s 0x4014#16 page =
    { dmaAfter page s 256 with cpu := { s.cpu with debt := s.cpu.debt + 513 + s.sysclk % 2 } } := by
  have h := dmaAfter_effects page s 256
  have hcpu : (dmaAfter page s 256).cpu = s.cpu := h.cpu
  have hclk : (dmaAfter page s 256).sysclk = s.sysclk := h.sysclk
  rw [memWrite_dma, oamDma, oamDmaCost, Nat.add_assoc, ← hcpu, ← hclk]
  rfl

section
variable {page} (hp : page.toNat ≤ 0x1F ∨ 0x41 ≤ page.toNat)
include hp

/-- Pages $20 to $40 apart, a page is plain memory throughout. -/
theorem plainRead_page (b : Byte) : PlainRead (word page b) := by
  have hb := b.isLt
  have hw := word_toNat page b
  rcases hp with h | h
  · exact .inl (by omega)
  · refine .inr ⟨by omega, fun e => ?_⟩
    rw [e] at hw
    simp only [BitVec.toNat_ofNat] at hw
    omega

theorem dmaAfter_transfer_plain (n : Nat) :
    dmaAfter page s (n + 1) = putByte (dmaAfter page s n) .oam ((s.ppu.oamaddr.toNat + n) % 256)
      (plainByte s (word page (BitVec.ofNat 8 n))) := by
  rw [dmaAfter_transfer, memRead_plain _ _ (plainRead_page hp _), (dmaAfter_effects page s n).plainByte_eq]

theorem dmaAfter_onlyOam (n : Nat) : ∃ o, dmaAfter page s n = { s with ppu := { s.ppu with oam := o } } := by
  induction n with
  | zero => exact ⟨s.ppu.oam, rfl⟩
  | succ n ih =>
    obtain ⟨o, ho⟩ := ih
    exact ⟨_, by rw [dmaAfter_transfer_plain s hp, ho]; rfl⟩

/-- A byte transferred stays where it was put: no two of the 256 transfers go to one OAM byte. -/
theorem dmaAfter_arrived (hs : s.Inv) {n i : Nat} (hn : n ≤ 256) (hi : i < n) :
    byteAt (dmaAfter page s n) .oam ((s.ppu.oamaddr.toNat + i) % 256) = plainByte s (word page (BitVec.ofNat 8 i)) := by
  induction n with
  | zero => omega
  | succ n ih =>
    rw [dmaAfter_transfer_plain s hp]
    by_cases e : i = n
    · rw [e, byteAt_putByte_same _ _ _ _ (dmaAfter_inv page s n hs)]
    · rw [byteAt_putByte_other _ _ _ _ _ _ (by omega), ih (by omega) (by omega)]

end

end

/-- Settles O15: the transfers one by one, and over plain memory the page arrives whole. -/
theorem oamDmaCopiesAPage : Obligations.OamDmaCopiesAPage := by
  intro s page
  simp only [memWrite_dma_eq]
  refine ⟨⟨dmaAfter page s, rfl, rfl, fun i _ => dmaAfter_transfer page s i⟩, dmaAfter_oamaddr page s 256, fun hp => ⟨?_, ?_⟩⟩
  · obtain ⟨o, ho⟩ := dmaAfter_onlyOam s hp 256
    rw [ho]
  · exact fun hs i hi => dmaAfter_arrived s hp hs (Nat.le_refl 256) hi

/-! ## Nametables (R82) -/

section
variable (c : Config) (chr : Memory 8) (p : Ppu) {a : Word}

/-- From $2000 to $3EFF a PPU bus read is one of the nametables. -/
theorem ppuRead_nametable (h : 0x2000 ≤ a.toNat) (h' : a.toNat ≤ 0x3EFF) :
    ppuRead c chr p a = p.nt.read (nametableIndex c.mirroring a) := by
  have whole : a &&& 0x3FFF#16 = a := BitVec.eq_of_toNat_eq (by rw [and_low14_toNat]; omega)
  unfold ppuRead
  rw [whole, if_neg (by omega), if_pos h']

/-- Two addresses of one nametable byte read alike. -/
theorem ppuRead_nametable_alias {b : Word} (h : 0x2000 ≤ a.toNat ∧ a.toNat ≤ 0x3EFF) (hb : 0x2000 ≤ b.toNat ∧ b.toNat ≤ 0x3EFF)
    (same : nametableIndex c.mirroring a = nametableIndex c.mirroring b) : ppuRead c chr p a = ppuRead c chr p b := by
  rw [ppuRead_nametable c chr p h.1 h.2, ppuRead_nametable c chr p hb.1 hb.2, same]

end

/-- Flipping bit `k` of an address keeps the bits below it and the bits above it. -/
theorem xor_twoPow_toNat (a : Word) {k : Nat} (hk : k < 16) :
    (a ^^^ BitVec.ofNat 16 (2 ^ k)).toNat % 2 ^ k = a.toNat % 2 ^ k ∧
      (a ^^^ BitVec.ofNat 16 (2 ^ k)).toNat / 2 ^ (k + 1) = a.toNat / 2 ^ (k + 1) := by
  have inWord : 2 ^ k % 2 ^ 16 = 2 ^ k := Nat.mod_eq_of_lt (Nat.pow_lt_pow_right (by decide) hk)
  have notAbove : 2 ^ k / 2 ^ (k + 1) = 0 := Nat.div_eq_of_lt (Nat.pow_lt_pow_right (by decide) (Nat.lt_succ_self k))
  rw [BitVec.toNat_xor, BitVec.toNat_ofNat, inWord, Nat.xor_mod_two_pow, Nat.mod_self, Nat.xor_zero, Nat.xor_div_two_pow,
    notAbove, Nat.xor_zero]
  exact ⟨rfl, rfl⟩

theorem nametableIndex_vertical (a : Word) : nametableIndex .vertical a = 1024 * (a.toNat / 1024 % 2) + a.toNat % 1024 := by
  simp only [nametableIndex, bitNat_eq, Nat.reducePow]

theorem nametableIndex_horizontal (a : Word) : nametableIndex .horizontal a = 1024 * (a.toNat / 2048 % 2) + a.toNat % 1024 := by
  simp only [nametableIndex, bitNat_eq, Nat.reducePow]

/-- Settles O16: each mode ignores one address bit, and both repeat every $1000. -/
theorem nametableMirroring : Obligations.NametableMirroring := by
  intro c chr p a h h'
  refine ⟨fun hm => ?_, fun hm => ?_, fun ha hm => ?_, fun ha hm => ?_, fun ha => ?_⟩
  · rw [ppuRead_nametable c chr p h h', hm]
    rfl
  · rw [ppuRead_nametable c chr p h h', hm]
    rfl
  · have flip : (a ^^^ 0x0800#16).toNat % 2048 = a.toNat % 2048 ∧ (a ^^^ 0x0800#16).toNat / 4096 = a.toNat / 4096 :=
      xor_twoPow_toNat a (k := 11) (by decide)
    refine ppuRead_nametable_alias c chr p (by omega) (by omega) ?_
    rw [hm, nametableIndex_vertical, nametableIndex_vertical]
    omega
  · have flip : (a ^^^ 0x0400#16).toNat % 1024 = a.toNat % 1024 ∧ (a ^^^ 0x0400#16).toNat / 2048 = a.toNat / 2048 :=
      xor_twoPow_toNat a (k := 10) (by decide)
    refine ppuRead_nametable_alias c chr p (by omega) (by omega) ?_
    rw [hm, nametableIndex_horizontal, nametableIndex_horizontal]
    omega
  · have down : (a - 0x1000#16).toNat = a.toNat - 0x1000 := by bv_omega
    refine ppuRead_nametable_alias c chr p (by omega) (by omega) ?_
    cases c.mirroring
    · rw [nametableIndex_horizontal, nametableIndex_horizontal]
      omega
    · rw [nametableIndex_vertical, nametableIndex_vertical]
      omega

/-! ## The PPU bus (R80, R81, R83) -/

/-- Palette entries $10, $14, $18, $1C are $00, $04, $08, $0C. -/
theorem ppuCell_paletteAlias (c : Config) {k : Nat} (hk : k < 4) :
    ppuCell c (BitVec.ofNat 16 (0x3F10 + 4 * k)) = ppuCell c (BitVec.ofNat 16 (0x3F00 + 4 * k)) := by
  interval_cases k <;> rfl

/-- Settles O17: reads and writes go to the byte that `ppuCell` names. -/
theorem ppuBusAccess : Obligations.PpuBusAccess := by
  intro s a d
  refine ⟨ppuRead_cell s a, ppuWrite_cell s a d, fun k hk e => ?_⟩
  rw [ppuWrite_cell, ppuWrite_cell, ppuCell_paletteAlias s.config hk]

end Sys2Proof.Machine

namespace Sys2Proof.Machine

/-! # Encoding: the decoder and the encoder (30_encoding.md)

The decoder reads an opcode byte and as many operand bytes as its length asks for, and answers the opcode map's row at
these bytes. The two directions of the round trip are then that the row at an instruction's encoding is the instruction,
and that the encoding of a row is the bytes it was taken at. -/

/-! ## What the decoder reads -/

/-- No instruction has more than two operand bytes (R111). -/
theorem operands_cases {op : Byte} {operands : List Byte} (hlen : instrLength op = operands.length + 1) :
    operands = [] ∨ (∃ b, operands = [b]) ∨ ∃ b c, operands = [b, c] := by
  match operands with
  | [] => exact .inl rfl
  | [b] => exact .inr (.inl ⟨b, rfl⟩)
  | [b, c] => exact .inr (.inr ⟨b, c, rfl⟩)
  | _ :: _ :: _ :: l =>
    have atMostThree := instrLength_range op
    simp only [List.length_cons] at hlen
    omega

/-- An opcode byte and its operand bytes are read whole, whatever follows them (R110). -/
theorem decode_append {op : Byte} {operands : List Byte} (rest : List Byte) (hlen : instrLength op = operands.length + 1) :
    decode (op :: operands ++ rest) = .ok (fetchedInstr (op :: operands), rest) := by
  obtain rfl | ⟨b, rfl⟩ | ⟨b, c, rfl⟩ := operands_cases hlen <;> simp [decode, fetchedInstr, hlen]

/-- Nothing else is read as an instruction. -/
theorem decode_eq_ok {bytes rest : List Byte} {i : Instr} (h : decode bytes = .ok (i, rest)) :
    ∃ op operands, bytes = op :: operands ++ rest ∧ instrLength op = operands.length + 1 ∧
      fetchedInstr (op :: operands) = i := by
  cases bytes with
  | nil => cases h
  | cons op tail =>
    simp only [decode] at h
    split at h
    case h_1 hlen => cases h; exact ⟨op, [], rfl, hlen, rfl⟩
    case h_2 b _ hlen => cases h; exact ⟨op, [b], rfl, hlen, rfl⟩
    case h_3 b c _ hlen => cases h; exact ⟨op, [b, c], rfl, hlen, rfl⟩
    case h_4 => cases h

/-! ## The row at an instruction's encoding is the instruction -/

/-- The length of every instruction's encoding is the one its opcode byte selects (R110). -/
theorem encodedLength (i : Instr) : Laws.EncodedLength.Statement i := by
  cases i <;> exact ⟨_, _, rfl, rfl⟩

/-- The instruction in the bytes is the row of the first byte at the bytes after it. -/
theorem fetchedInstr_row {op : Byte} {operands : List Byte} {i : Instr}
    (h : decodeOp op (operands.getD 0 0#8) (operands.getD 1 0#8) = i) : fetchedInstr (op :: operands) = i :=
  h

/-- A row with a word operand, at the two bytes of the word. -/
theorem fetchedInstr_word {op : Byte} {row : Word → Instr} (h : ∀ b c, decodeOp op b c = row (word c b)) (w : Word) :
    fetchedInstr [op, lo w, hi w] = row w :=
  fetchedInstr_row ((h (lo w) (hi w)).trans (congrArg row (word_hi_lo w)))

/-- A word operand comes back from its bytes low byte first (R113); the other operands are the byte written. -/
theorem fetchedInstr_encode (i : Instr) : fetchedInstr (encode i) = i := by
  cases i
  case oraAbs w | oraAby w | oraAbx w | andAbs w | andAby w | andAbx w | eorAbs w | eorAby w | eorAbx w | adcAbs w |
      adcAby w | adcAbx w | sbcAbs w | sbcAby w | sbcAbx w | cmpAbs w | cmpAby w | cmpAbx w | cpxAbs w | cpyAbs w |
      bitAbs w | ldaAbs w | ldaAby w | ldaAbx w | ldxAbs w | ldxAby w | ldyAbs w | ldyAbx w | staAbs w | staAby w |
      staAbx w | stxAbs w | styAbs w | aslAbs w | aslAbx w | lsrAbs w | lsrAbx w | rolAbs w | rolAbx w | rorAbs w |
      rorAbx w | incAbs w | incAbx w | decAbs w | decAbx w | jmpAbs w | jmpInd w | jsr w =>
    exact fetchedInstr_word (fun _ _ => rfl) w
  all_goals exact fetchedInstr_row rfl

/-- Settles O1: an encoding has the length its opcode byte selects, so it is read whole, and its row is the instruction. -/
theorem decodeEncodeRoundTrip : Obligations.DecodeEncodeRoundTrip := by
  intro i rest
  obtain ⟨op, operands, henc, hlen⟩ := encodedLength i
  have back : fetchedInstr (op :: operands) = i := henc ▸ fetchedInstr_encode i
  rw [henc, decode_append rest hlen, back]

/-- Settles O3: each word is the encoding of the instruction it stands for, with nothing after it. -/
theorem sampleWordsDecode : Obligations.SampleWordsDecode :=
  have read := fun i => decodeEncodeRoundTrip i []
  ⟨read (.ldaImm 0x80#8), read (.staAbs 0x0200#16), read .tax, read .pha, read (.adcAbx 0x20F0#16), read (.andIzy 0x10#8),
    read .aslAcc, read (.incZpx 0x10#8), read (.jmpInd 0x02FF#16), read (.beq 0x10#8), read .brk, read .rti, read .clc,
    read .illegal02⟩

/-! ## The encoding of a row is the bytes it was taken at -/

/-- The operand bytes that the encoding of a row of length `len` writes, the row taken at operand bytes `b` and `c`. -/
def writtenOperands (len : Nat) (b c : Byte) : List Byte :=
  match len with
  | 1 => []
  | 2 => [b]
  | _ => [lo (word c b), hi (word c b)]

/-- A byte is one of 256 numerals: a table of the 256 opcode bytes is checked row by row. -/
theorem byte_numeral (op : Byte) : ∃ n < 256, op = BitVec.ofNat 8 n :=
  ⟨op.toNat, op.isLt, by rw [BitVec.ofNat_toNat, BitVec.setWidth_eq]⟩

/-- Every one of the 256 rows is encoded with its own opcode byte (R114, R116). -/
theorem encode_decodeOp (op b c : Byte) : encode (decodeOp op b c) = op :: writtenOperands (instrLength op) b c := by
  obtain ⟨n, hn, rfl⟩ := byte_numeral op
  interval_cases n <;> rfl

theorem encode_fetchedInstr {op : Byte} {operands : List Byte} (hlen : instrLength op = operands.length + 1) :
    encode (fetchedInstr (op :: operands)) = op :: operands := by
  rw [fetchedInstr, encode_decodeOp]
  obtain rfl | ⟨b, rfl⟩ | ⟨b, c, rfl⟩ := operands_cases hlen <;> simp [hlen, writtenOperands]

/-- Settles O2: what is read is a row at the bytes read, and the row's encoding is those bytes. -/
theorem onlyEncodingsDecode : Obligations.OnlyEncodingsDecode := by
  intro bytes i rest h
  obtain ⟨op, operands, rfl, hlen, rfl⟩ := decode_eq_ok h
  rw [encode_fetchedInstr hlen]

/-! ## Which opcode bytes are illegal -/

/-- The opcode byte an outcome faults on, if it does. -/
def faultOpcode : Result → Option Byte
  | .fault (.illegalOpcode op _) => some op
  | _ => none

/-- Of the 256 rows those of R116 fault, each on its own opcode byte (R248). -/
theorem faultOpcode_exec (op b c : Byte) (s : State) :
    faultOpcode (exec (decodeOp op b c) s) = if op ∈ undefinedOpcodes then some op else none := by
  obtain ⟨n, hn, rfl⟩ := byte_numeral op
  interval_cases n <;> rfl

/-- An undefined opcode byte faults in every state, and every other one completes in every state. -/
theorem exec_decodeOp (op b c : Byte) :
    (op ∈ undefinedOpcodes ∧ ∀ s, exec (decodeOp op b c) s = .fault (.illegalOpcode op s)) ∨
      (op ∉ undefinedOpcodes ∧ ∀ s, ∃ t, exec (decodeOp op b c) s = .next t) := by
  have key := faultOpcode_exec op b c State.reset
  obtain ⟨f, -, completes⟩ | ⟨op', faults⟩ := exec_cases (decodeOp op b c)
  · refine .inr ⟨fun undefined => ?_, fun s => ⟨f s, completes s⟩⟩
    simp [completes, undefined, faultOpcode] at key
  · obtain ⟨undefined, rfl⟩ : op ∈ undefinedOpcodes ∧ op = op' := by simpa [faults, faultOpcode, eq_comm] using key
    exact .inl ⟨undefined, faults⟩

theorem undefinedOpcodes_length_one : ∀ op ∈ undefinedOpcodes, instrLength op = 1 :=
  List.forall_iff_forall_mem.mp (by decide)

/-- Settles O4: the length and the side are the opcode byte's, whatever bytes follow it. -/
theorem decodingIsTotal : Obligations.DecodingIsTotal := by
  refine ⟨by decide, by decide, fun op => ⟨instrLength op - 1, ?_, fun b c rest => ?_⟩⟩
  · have atMostThree := instrLength_range op
    omega
  · have enough : instrLength op = ((b :: c :: rest).take (instrLength op - 1)).length + 1 := by
      have atMostThree := instrLength_range op
      simp only [List.length_take, List.length_cons]
      omega
    have read := decode_append ((b :: c :: rest).drop (instrLength op - 1)) enough
    rw [List.cons_append, List.take_append_drop] at read
    refine ⟨_, read, ?_⟩
    obtain ⟨undefined, faults⟩ | defined := exec_decodeOp op _ _
    · exact .inl ⟨undefined, by rw [undefinedOpcodes_length_one op undefined], faults⟩
    · exact .inr defined

end Sys2Proof.Machine

namespace Sys2Proof.Machine

/-! # Addressing modes: fetching, effective addresses, branches (40_addressing_modes.md) -/

/-! ## Fetching an instruction (R130, R121) -/

/-- The state after `n` `Fetch8`s. -/
def afterFetches (s : State) (n : Nat) : State := Nat.repeat (fun u => (fetch8 u).state) n s

theorem afterFetches_fetch8 (s : State) (n : Nat) : afterFetches (fetch8 s).state n = afterFetches s (n + 1) := by
  induction n with
  | zero => rfl
  | succ n ih => exact congrArg (fun u => (fetch8 u).state) ih

theorem fetchBytes_eq (n : Nat) (s : State) : fetchBytes n s =
    { bytes := (List.range n).map fun k => (fetch8 (afterFetches s k)).value, state := afterFetches s n } := by
  induction n generalizing s with
  | zero => rfl
  | succ n ih => simp only [fetchBytes, ih, afterFetches_fetch8, List.range_succ_eq_map, List.map_cons, List.map_map]; rfl

theorem instrLength_pos (op : Byte) : 0 < instrLength op := by
  have := instrLength_range op
  omega

/-- The opcode byte is fetched as every operand byte is, so a fetch is `instrLength` many `Fetch8`s (R130). -/
theorem fetch_eq_fetchBytes (s : State) : fetch s = fetchBytes (instrLength (fetch8 s).value) s := by
  obtain ⟨n, hn⟩ := Nat.exists_eq_add_one.mpr (instrLength_pos (fetch8 s).value)
  rw [fetch, hn]
  rfl

/-- `Fetch8`s in plain memory change PC alone. -/
theorem afterFetches_plain {s : State} {n : Nat} (h : ∀ k < n, PlainRead (s.cpu.pc + BitVec.ofNat 16 k)) :
    afterFetches s n = setPc s (s.cpu.pc + BitVec.ofNat 16 n) := by
  induction n with
  | zero => simp [setPc, afterFetches, Nat.repeat]
  | succ n ih =>
    have before := ih fun k hk => h k (by omega)
    calc afterFetches s (n + 1) = (fetch8 (setPc s (s.cpu.pc + BitVec.ofNat 16 n))).state := by rw [← before]; rfl
      _ = setPc s (s.cpu.pc + BitVec.ofNat 16 n + 1#16) := by rw [fetch8_plain _ (h n (by omega))]; rfl
      _ = setPc s (s.cpu.pc + BitVec.ofNat 16 (n + 1)) := by rw [BitVec.add_assoc, BitVec.ofNat_add]

theorem fetchBytes_plain {s : State} {n : Nat} (h : ∀ k < n, PlainRead (s.cpu.pc + BitVec.ofNat 16 k)) :
    fetchBytes n s = { bytes := (List.range n).map fun k => plainByte s (s.cpu.pc + BitVec.ofNat 16 k)
                       state := setPc s (s.cpu.pc + BitVec.ofNat 16 n) } := by
  have value : ∀ k ∈ List.range n,
      (fetch8 (afterFetches s k)).value = plainByte s (s.cpu.pc + BitVec.ofNat 16 k) := by
    intro k hk
    have hk := List.mem_range.mp hk
    rw [afterFetches_plain fun j hj => h j (by omega), fetch8_plain _ (h k hk)]
    rfl
  rw [fetchBytes_eq, afterFetches_plain h, List.map_congr_left value]

/-- Fetching an instruction whose bytes lie in plain memory. -/
theorem fetch_plain {s : State} {len : Nat} (hlen : instrLength (plainByte s s.cpu.pc) = len)
    (h : ∀ k < len, PlainRead (s.cpu.pc + BitVec.ofNat 16 k)) :
    fetch s = { bytes := (List.range len).map fun k => plainByte s (s.cpu.pc + BitVec.ofNat 16 k)
                state := setPc s (s.cpu.pc + BitVec.ofNat 16 len) } := by
  have first : PlainRead s.cpu.pc := by simpa using h 0 (hlen ▸ instrLength_pos _)
  rw [fetch_eq_fetchBytes, fetch8_plain s first, hlen, fetchBytes_plain h]

/-- The three bytes at $FFFF, $0000 and $0001 lie in plain memory. -/
theorem plainRead_wrap {k : Nat} (hk : k < 3) : PlainRead (0xFFFF#16 + BitVec.ofNat 16 k) := by
  unfold PlainRead
  interval_cases k <;> decide

/-- Settles O5: a fetch is `Fetch8`s in a row, and in plain memory each of them moves PC and nothing else. -/
theorem fetchReadsInstructionBytes : Obligations.FetchReadsInstructionBytes := by
  intro s
  refine ⟨rfl, fetch8_state s, fun hpc => ?_, ?_, fun h => ?_, fun hpc hlen => ?_⟩
  · rw [fetch8_state, hpc]
    rfl
  · rw [fetch_eq_fetchBytes, fetchBytes_eq]
    exact ⟨rfl, rfl⟩
  · rw [fetch_plain rfl h]
    exact ⟨rfl, rfl⟩
  · rw [← hpc] at hlen
    rw [fetch_plain hlen fun k hk => hpc ▸ plainRead_wrap hk, hpc]
    rfl

/-! ## Effective addresses (R134 to R142) -/

theorem zeroPage_toNat (z index : Byte) (s : State) : (zeroPage z index s).ea.toNat = (z.toNat + index.toNat) % 256 := by
  rw [zeroPage, zext16_toNat, BitVec.toNat_add]

theorem indexed_cross (base : Word) (index : Byte) (s : State) : (indexed base index s).cross =
    decide ((base.toNat + index.toNat) % 65536 / 256 ≠ base.toNat / 256) := by
  rw [← indexed_toNat base index s]
  exact pageCross_eq _ _

/-- The byte after the one at `w` inside the same page: the high byte of `w` is kept (R138). -/
theorem nextInPage_toNat (w : Word) :
    (word (hi w) (lo w + 1#8)).toNat = 256 * (w.toNat / 256) + (w.toNat + 1) % 256 := by
  rw [word_toNat, hi_toNat, BitVec.toNat_add, lo_toNat]
  simp

/-- The word in RAM at offset `n` of the zero page, where it wraps (R139, R140). -/
def zeroPageWord (s : State) (n : Nat) : Word := word (byteAt s .ram ((n + 1) % 256)) (byteAt s .ram (n % 256))

/-- A pointer at `p` and the byte after it modulo 256 is that word, read without side effects. -/
theorem readPointer_zeroPageWord (s : State) {p : Byte} {n : Nat} (hp : p.toNat = n % 256) :
    readPointer s (zext16 p) (zext16 (p + 1#8)) = { ea := zeroPageWord s n, cross := false, state := s } := by
  have next : (p + 1#8).toNat = (n + 1) % 256 := by
    rw [BitVec.toNat_add, hp]
    simp
  rw [readPointer_zeroPage, next, hp, zeroPageWord]

theorem address_izx (z : Byte) (s : State) :
    address (.izx z) s = { ea := zeroPageWord s (z.toNat + s.cpu.x.toNat), cross := false, state := s } :=
  readPointer_zeroPageWord s (BitVec.toNat_add z s.cpu.x)

theorem address_izy (z : Byte) (s : State) : address (.izy z) s = indexed (zeroPageWord s z.toNat) s.cpu.y s := by
  rw [address, postIndexed, readPointer_zeroPageWord s (Nat.mod_eq_of_lt z.isLt).symm]

/-- The modes abx, aby and izy deliver a base, from the instruction or from the zero page, plus an index (R140 to R142). -/
theorem indexed_delivers {m : MemOperand} {base : Word} {index : Byte} {s : State} (h : address m s = indexed base index s) :
    (address m s).ea.toNat = (base.toNat + index.toNat) % 65536 ∧
      (address m s).cross = decide ((base.toNat + index.toNat) % 65536 / 256 ≠ base.toNat / 256) ∧ (address m s).state = s := by
  rw [h]
  exact ⟨indexed_toNat base index s, indexed_cross base index s, rfl⟩

/-- Settles O36: the modes fall into those in the zero page, those at a word, and those at a word plus an index. -/
theorem addressingModes : Obligations.AddressingModes := by
  intro s z w
  exact ⟨⟨zeroPage_toNat z 0#8 s, rfl, rfl⟩, ⟨zeroPage_toNat z s.cpu.x s, rfl, rfl⟩, ⟨zeroPage_toNat z s.cpu.y s, rfl, rfl⟩,
    rfl, ⟨_, nextInPage_toNat w, rfl⟩, address_izx z s, indexed_delivers (address_izy z s), indexed_delivers rfl,
    indexed_delivers rfl, fun _ => rfl, fun _ => rfl, rfl⟩

/-! ## Branches (R143, R223 to R231) -/

theorem branchTarget_eq (s : State) (off : Byte) : branchTarget s off = relTarget s.cpu.pc off := by
  rw [branchTarget, relTarget, BitVec.ofInt_add, BitVec.ofInt_natCast, BitVec.ofNat_toNat, BitVec.setWidth_eq]
  rfl

/-- A cost marked `+t+p` with the page-cross bit of two addresses (R223). -/
theorem instrCycles_branch {op : Byte} (h : instrCost op = branchCost 2) (taken : Bool) (target pc : Word) :
    instrCycles op (pageCross target pc) taken = branchCycles taken target pc := by
  rw [instrCycles, h, pageCross_eq, branchCycles]
  cases taken
  · rfl
  · by_cases same : target.toNat / 256 = pc.toNat / 256 <;> simp [same, branchCost]

/-- A branch moves PC when its condition holds, and changes the debt and nothing else. -/
theorem branch_eq (op : Byte) (taken : Bool) (off : Byte) (s : State) : branch op taken off s = { s with
    cpu := { s.cpu with
      pc := if taken then relTarget s.cpu.pc off else s.cpu.pc
      debt := s.cpu.debt + instrCycles op (pageCross (relTarget s.cpu.pc off) s.cpu.pc) taken } } := by
  rw [branch, branchTarget_eq]
  cases taken <;> rfl

theorem completesInCpu_branch {i : Instr} {op off : Byte} {taken : Bool} {s : State} (h : exec i s = .next (branch op taken off s))
    (hc : instrCost op = branchCost 2) :
    CompletesInCpu i (branchCycles taken (relTarget s.cpu.pc off) s.cpu.pc)
      (fun c d => d = { c with pc := if taken then relTarget s.cpu.pc off else c.pc, debt := d.debt }) s := by
  rw [branch_eq, instrCycles_branch hc] at h
  exact ⟨_, h, rfl, byteAt_withCpu s _, rfl, rfl⟩

/-- Settles O49: each branch is `branch` on its flag, at an opcode byte whose cost is marked `+t+p`. -/
theorem conditionalBranches : Obligations.ConditionalBranches := by
  intro s off
  exact ⟨completesInCpu_branch (op := 0x90#8) rfl rfl, completesInCpu_branch (op := 0xB0#8) rfl rfl,
    completesInCpu_branch (op := 0xF0#8) rfl rfl, completesInCpu_branch (op := 0xD0#8) rfl rfl,
    completesInCpu_branch (op := 0x30#8) rfl rfl, completesInCpu_branch (op := 0x10#8) rfl rfl,
    completesInCpu_branch (op := 0x50#8) rfl rfl, completesInCpu_branch (op := 0x70#8) rfl rfl⟩

end Sys2Proof.Machine

namespace Sys2Proof.Machine

/-! # Loads, stores and transfers (41_load_store_transfer.md) -/

/-! ## Loading a register (10_state.md R27) -/

/-- `R <- v; SetZN(R)`: what LDA, LDX, LDY and the transfers but TXS do to the CPU. -/
def Reg.load (r : Reg) (v : Byte) (c : Cpu) : Cpu :=
  match r with
  | .a => { c with a := v, p := setZN c.p v }
  | .x => { c with x := v, p := setZN c.p v }
  | .y => { c with y := v, p := setZN c.p v }
  | .sp => { c with sp := v, p := setZN c.p v }

/-- What the statements say of it, with the register as an argument: `LoadsA`, `LoadsX` and `LoadsY` in one. -/
def Reg.Loads (r : Reg) (v : Byte) (c d : Cpu) : Prop :=
  d = { r.load v c with p := d.p, debt := d.debt } ∧ ZNFrom c.p d.p v

theorem Reg.loads_a : Reg.a.Loads = LoadsA := rfl
theorem Reg.loads_x : Reg.x.Loads = LoadsX := rfl
theorem Reg.loads_y : Reg.y.Loads = LoadsY := rfl

theorem Reg.load_debt (r : Reg) (v : Byte) (c : Cpu) : (r.load v c).debt = c.debt := by cases r <;> rfl

/-- Loading a register sets Z and N by `SetZN`; the debt is charged apart. -/
theorem Reg.loads_load (r : Reg) (v : Byte) (c : Cpu) (n : Nat) : r.Loads v c { r.load v c with debt := n } := by
  cases r <;> exact ⟨rfl, setZN_flags c.p v⟩

/-! ## Instructions that load a register -/

/-- The cycles of an instruction that takes no branch: the base, and one more on a page cross where the table has `+p` (R400). -/
theorem instrCycles_untaken {op : Byte} {cost : Nat} {pg : Bool}
    (h : instrCost op = { base := cost, onCross := pg, onTaken := false }) (x : Bool) :
    instrCycles op x false = cost + (pg && x).toNat := by
  rw [instrCycles, h]
  cases pg <;> cases x <;> rfl

/-- A load takes the byte its operand reads. -/
theorem completesReading_load (r : Reg) {i : Instr} {o : Operand} {op : Byte} {cost : Nat} {pg : Bool} {s : State}
    (h : exec i s = .next (charge op (readOperand o s).cross false
      { (readOperand o s).state with cpu := r.load (readOperand o s).value (readOperand o s).state.cpu }))
    (hc : instrCost op = { base := cost, onCross := pg, onTaken := false }) : CompletesReading i o cost pg r.Loads s := by
  rw [readOperand_cpu] at h
  exact completesReading_of op _ h (r.load_debt _ _) (instrCycles_untaken hc) (r.loads_load _ _ _)

/-- A transfer takes the byte of another register. -/
theorem completesInCpu_transfer (r source : Reg) {i : Instr} {op : Byte} {cost : Nat} {s : State}
    (h : exec i s = .next (charge op false false { s with cpu := r.load (source.get s.cpu) s.cpu }))
    (hc : instrCost op = fixedCost cost) : CompletesInCpu i cost (fun c d => r.Loads (source.get c) c d) s :=
  completesInCpu_of op _ h (r.load_debt _ _) (instrCycles_untaken hc false) (r.loads_load _ _ _)

/-- A store whose cost a page cross does not change. -/
theorem completesStoring_fixed {i : Instr} {m : MemOperand} {v op : Byte} {cost : Nat} {s : State}
    (h : exec i s = .next (store op m v s)) (hc : instrCost op = fixedCost cost) : CompletesStoring i m v cost s :=
  completesStoring_of op h (instrCycles_untaken hc)

/-! ## The statements -/

/-- Settles O37: each form loads its register from its operand, at the cost of its opcode byte. -/
theorem loadsSetTheRegister : Obligations.LoadsSetTheRegister := by
  unfold Obligations.LoadsSetTheRegister
  rw [← Reg.loads_a, ← Reg.loads_x, ← Reg.loads_y]
  intro s v z w
  and_intros
  iterate 8 exact completesReading_load .a rfl rfl
  iterate 5 exact completesReading_load .x rfl rfl
  iterate 5 exact completesReading_load .y rfl rfl

/-- Settles O38: each form is `store` of its register, at an opcode byte of fixed cost. -/
theorem storesWriteTheRegister : Obligations.StoresWriteTheRegister := by
  intro s z w
  and_intros <;> exact completesStoring_fixed rfl rfl

/-- Settles O39: five transfers load a register from another one; TXS moves X to SP and computes no flag. -/
theorem transfersCopyTheRegister : Obligations.TransfersCopyTheRegister := by
  unfold Obligations.TransfersCopyTheRegister
  rw [← Reg.loads_a, ← Reg.loads_x, ← Reg.loads_y]
  intro s
  exact ⟨completesInCpu_transfer .x .a rfl rfl, completesInCpu_transfer .y .a rfl rfl, completesInCpu_transfer .a .x rfl rfl,
    completesInCpu_transfer .a .y rfl rfl, completesInCpu_transfer .x .sp rfl rfl,
    completesInCpu_of 0x9A#8 { s.cpu with sp := s.cpu.x } rfl rfl rfl rfl⟩

end Sys2Proof.Machine

namespace Sys2Proof.Machine

/-! # The stack instructions (42_stack.md) -/

/-- A push instruction pushes its byte, and of the registers it moves only SP and the debt (R170). -/
theorem push_effect {op : Byte} {cost : Nat} (v : Byte) (s : State) (hc : instrCost op = fixedCost cost) :
    OnlyPushed s (push op v s) [v] ∧
      (push op v s).cpu = { s.cpu with sp := s.cpu.sp - 1#8, debt := s.cpu.debt + cost } := by
  have cycles : instrCycles op false false = cost := instrCycles_untaken hc false
  rw [push, charge_eq, cycles]
  exact ⟨(push8_once s v).withCpu _, by rw [push8_eq]⟩

/-- A pop reads the byte above the stack pointer and moves SP, and nothing else (R171). -/
theorem pop8_popped (s : State) : pop8 s = { value := popped s 1, state := setSp s (s.cpu.sp + 1#8) } := pop8_eq s

/-- PLA changes A, SP, and the flags of P that `SetZN` computes (R174). -/
theorem exec_pla (s : State) : exec .pla s = .next (charge 0x68#8 false false { s with
    cpu := { s.cpu with a := popped s 1, sp := s.cpu.sp + 1#8, p := setZN s.cpu.p (popped s 1) } }) := by
  rw [show exec .pla s = .next (pla 0x68#8 s) from rfl, pla, pop8_popped]
  rfl

/-- PLP changes SP, and the six flags of P (R175). -/
theorem exec_plp (s : State) : exec .plp s = .next (charge 0x28#8 false false { s with
    cpu := { s.cpu with sp := s.cpu.sp + 1#8, p := plpFlags s.cpu.p (popped s 1) } }) := by
  rw [show exec .plp s = .next (plp 0x28#8 s) from rfl, plp, pop8_popped]
  rfl

/-- Settles O40: both are `push`, PHA of A and PHP of the flag byte that software pushes. -/
theorem pushesWriteTheStack : Obligations.PushesWriteTheStack := by
  intro s
  exact ⟨⟨_, rfl, push_effect s.cpu.a s rfl⟩, ⟨_, rfl, _, pushedBySoftware_flags s.cpu.p, push_effect _ s rfl⟩⟩

/-- Settles O41: both pop one byte; PLA sets Z and N of it, PLP takes the six flags from it. -/
theorem pullsReadTheStack : Obligations.PullsReadTheStack := by
  intro s
  exact ⟨completesInCpu_of _ _ (exec_pla s) rfl rfl ⟨rfl, setZN_flags _ _⟩,
    completesInCpu_of _ _ (exec_plp s) rfl rfl ⟨rfl, plpFlags_flags _ _⟩⟩

end Sys2Proof.Machine

namespace Sys2Proof.Machine

/-! # Arithmetic, logic, compare and bit test (43_alu.md) -/

/-! ## How each meaning completes -/

section
variable {i : Instr} {o : Operand} {op : Byte} {cost : Nat} {pg : Bool} {s : State}

/-- An instruction that applies `f` of the byte its operand reads to the CPU's registers. -/
theorem completesReading_cpu (f : Byte → Cpu → Cpu) {post : Byte → Cpu → Cpu → Prop}
    (h : exec i s = .next (charge op (readOperand o s).cross false
      { (readOperand o s).state with cpu := f (readOperand o s).value (readOperand o s).state.cpu }))
    (hc : instrCost op = { base := cost, onCross := pg, onTaken := false })
    (hd : ∀ m c, (f m c).debt = c.debt) (hp : ∀ m c n, post m c { f m c with debt := n }) :
    CompletesReading i o cost pg post s := by
  rw [readOperand_cpu] at h
  exact completesReading_of op _ h (hd _ _) (instrCycles_untaken hc) (hp _ _ _)

/-- Of the same run, a weaker relation between the registers before and after may be said. -/
theorem CompletesReading.mono {post post' : Byte → Cpu → Cpu → Prop} (h : CompletesReading i o cost pg post s)
    (weaker : ∀ m c d, post m c d → post' m c d) : CompletesReading i o cost pg post' s := by
  obtain ⟨t, run, frame, effects, bytes, debt, hp⟩ := h
  exact ⟨t, run, frame, effects, bytes, debt, weaker _ _ _ hp⟩

/-- ADC of the byte `m` (R180): what `addToA` does to the CPU. -/
def Cpu.add (m : Byte) (c : Cpu) : Cpu :=
  { c with a := addResult c.a m (flagC c.p), p := addFlags c.p c.a m (flagC c.p) }

theorem Cpu.sums_add (m : Byte) (c : Cpu) (n : Nat) : Sums m c { c.add m with debt := n } :=
  ⟨rfl, addFlags_flags c.p c.a m (flagC c.p)⟩

theorem completesReading_adc (h : exec i s = .next (adc op o s))
    (hc : instrCost op = { base := cost, onCross := pg, onTaken := false }) : CompletesReading i o cost pg Sums s :=
  completesReading_cpu Cpu.add h hc (fun _ _ => rfl) Cpu.sums_add

theorem completesReading_sbc (h : exec i s = .next (sbc op o s))
    (hc : instrCost op = { base := cost, onCross := pg, onTaken := false }) :
    CompletesReading i o cost pg (fun m => Sums (m ^^^ 0xFF#8)) s :=
  completesReading_cpu (fun m => Cpu.add (m ^^^ 0xFF#8)) h hc (fun _ _ => rfl) fun _ => Cpu.sums_add _

/-- AND, ORA and EOR load A with an operation `f` on A and the operand. -/
theorem completesReading_combine (f : Byte → Byte → Byte)
    (h : exec i s = .next (charge op (readOperand o s).cross false
      (resultToA (f (readOperand o s).state.cpu.a (readOperand o s).value) (readOperand o s).state)))
    (hc : instrCost op = { base := cost, onCross := pg, onTaken := false }) :
    CompletesReading i o cost pg (fun m c => LoadsA (f c.a m) c) s :=
  completesReading_cpu (fun m c => Reg.a.load (f c.a m) c) h hc (fun _ _ => rfl) fun _ _ => Reg.a.loads_load _ _

theorem completesReading_bitTest (h : exec i s = .next (bitTest op o s))
    (hc : instrCost op = { base := cost, onCross := pg, onTaken := false }) : CompletesReading i o cost pg BitTests s :=
  completesReading_cpu (fun m c => { c with p := bitFlags c.p c.a m }) h hc (fun _ _ => rfl)
    fun _ _ _ => ⟨rfl, bitFlags_flags _ _ _⟩

/-- A compare takes its register before the operand is read, which does not change it. -/
theorem completesReading_compare (r : Reg) (h : exec i s = .next (compareReg op (r.get s.cpu) o s))
    (hc : instrCost op = { base := cost, onCross := pg, onTaken := false }) :
    CompletesReading i o cost pg (fun m c => Compares (r.get c) m c) s := by
  rw [← readOperand_cpu o s] at h
  exact completesReading_cpu (fun m c => { c with p := compareFlags c.p (r.get c) m }) h hc (fun _ _ => rfl)
    fun _ _ _ => ⟨rfl, compareFlags_flags _ _ _⟩

end

/-- Settles O42: each form is `adc` or `sbc` of its operand, at the cost of its opcode byte. -/
theorem addAndSubtract : Obligations.AddAndSubtract := by
  intro s v z w
  and_intros
  iterate 8 exact completesReading_adc rfl rfl
  iterate 8 exact completesReading_sbc rfl rfl

/-- Settles O44: AND, ORA and EOR load A with their operation on bytes; BIT sets flags alone. -/
theorem logicAndBitTest : Obligations.LogicAndBitTest := by
  intro s v z w
  and_intros
  iterate 8 exact completesReading_combine (· &&& ·) rfl rfl
  iterate 8 exact completesReading_combine (· ||| ·) rfl rfl
  iterate 8 exact completesReading_combine (· ^^^ ·) rfl rfl
  iterate 2 exact completesReading_bitTest rfl rfl

/-- Settles O45: each form compares its register with its operand, at the cost of its opcode byte. -/
theorem compareRegisters : Obligations.CompareRegisters := by
  intro s v z w
  and_intros
  iterate 8 exact completesReading_compare .a rfl rfl
  iterate 3 exact completesReading_compare .x rfl rfl
  iterate 3 exact completesReading_compare .y rfl rfl

/-! ## The sum and the difference as signed numbers (R189) -/

/-- The numbers that no signed byte is. -/
def OutsideSignedByte (n : Int) : Prop := n < -128 ∨ 127 < n

theorem toInt_not_outsideSignedByte (b : Byte) : ¬OutsideSignedByte b.toInt := by
  have := b.le_toInt
  have := b.toInt_lt
  unfold OutsideSignedByte
  omega

/-- Bit 7 is the sign. -/
theorem getLsbD_seven (b : Byte) : b.getLsbD 7 = decide (b.toInt < 0) := by
  rw [← BitVec.msb_eq_toInt, BitVec.msb_eq_getLsbD_last]

/-- The result of an addition is the signed sum, reduced to a signed byte. -/
theorem addResult_toInt (a m : Byte) (c : Bool) :
    (addResult a m c).toInt = (a.toInt + m.toInt + c.toNat).bmod 256 := by
  have bits : addResult a m c = a + m + BitVec.ofNat 8 c.toNat := by simp [addResult, addSum, BitVec.ofNat_add]
  have carry : (BitVec.ofNat 8 c.toNat).toInt = c.toNat := by cases c <;> rfl
  rw [bits, BitVec.toInt_add, BitVec.toInt_add, carry, Int.bmod_add_bmod]

theorem bmod_of_not_outsideSignedByte {n : Int} (h : ¬OutsideSignedByte n) : n.bmod 256 = n := by
  unfold OutsideSignedByte at h
  exact Int.bmod_eq_of_le (by omega) (by omega)

/-- Two signed bytes and a carry leave the signed bytes exactly when the bytes have one sign and the reduced sum the other. -/
theorem outsideSignedByte_add {x y : Int} (hx : ¬OutsideSignedByte x) (hy : ¬OutsideSignedByte y) (c : Bool) :
    OutsideSignedByte (x + y + c.toNat) ↔ (x < 0 ↔ y < 0) ∧ ¬((x + y + c.toNat).bmod 256 < 0 ↔ x < 0) := by
  have hc := Bool.toNat_le c
  unfold OutsideSignedByte at *
  rw [Int.bmod_def]
  split <;> omega

/-- ADC on signed numbers: V is set when the sum is out of range, and otherwise A is the sum (R180). -/
def SignedSum (m : Byte) (c d : Cpu) : Prop :=
  let sum : Int := c.a.toInt + m.toInt + (flagC c.p).toNat
  (flagV d.p = true ↔ OutsideSignedByte sum) ∧ (flagV d.p = false → d.a.toInt = sum)

theorem Sums.signedSum (m : Byte) (c d : Cpu) (h : Sums m c d) : SignedSum m c d := by
  obtain ⟨hd, -, hv, -⟩ := h
  have result : d.a = addResult c.a m (flagC c.p) := by rw [hd]; rfl
  have overflow : flagV d.p = true ↔ OutsideSignedByte (c.a.toInt + m.toInt + (flagC c.p).toNat) := by
    rw [outsideSignedByte_add (toInt_not_outsideSignedByte c.a) (toInt_not_outsideSignedByte m), ← addResult_toInt, hv,
      getLsbD_seven, getLsbD_seven, getLsbD_seven]
    simp [addResult, addSum]
  refine ⟨overflow, fun clear => ?_⟩
  rw [result, addResult_toInt]
  exact bmod_of_not_outsideSignedByte (overflow.not.1 (by simp [clear]))

theorem complement_toNat (m : Byte) : (m ^^^ 0xFF#8).toNat = 255 - m.toNat := by
  rw [show 0xFF#8 = BitVec.allOnes 8 from rfl, BitVec.xor_allOnes, BitVec.toNat_not]

theorem complement_toInt (m : Byte) : (m ^^^ 0xFF#8).toInt = -1 - m.toInt := by
  have := m.isLt
  rw [BitVec.toInt_eq_toNat_cond, BitVec.toInt_eq_toNat_cond, complement_toNat]
  split <;> split <;> omega

/-- SBC on numbers: the byte and C from the unsigned difference, V and A from the signed one (R181, R189). -/
def Subtracts (m : Byte) (c d : Cpu) : Prop :=
  let borrow : Int := 1 - (flagC c.p).toNat
  let difference : Int := (c.a.toNat : Int) - (m.toNat : Int) - borrow
  let signed : Int := c.a.toInt - m.toInt - borrow
  (d.a.toNat : Int) = difference % 256 ∧ (flagC d.p = true ↔ 0 ≤ difference) ∧
    (flagV d.p = true ↔ OutsideSignedByte signed) ∧ (flagV d.p = false → d.a.toInt = signed)

/-- Adding the one's complement is subtracting: the unsigned sum is the difference and 256, the signed sum the difference. -/
theorem Sums.subtracts (m : Byte) (c d : Cpu) (h : Sums (m ^^^ 0xFF#8) c d) : Subtracts m c d := by
  obtain ⟨overflow, inside⟩ := h.signedSum
  obtain ⟨hd, carry, -⟩ := h
  have result : d.a.toNat = (c.a.toNat + (m ^^^ 0xFF#8).toNat + (flagC c.p).toNat) % 256 := by
    rw [hd]
    exact BitVec.toNat_ofNat _ _
  have unsigned : ((c.a.toNat + (m ^^^ 0xFF#8).toNat + (flagC c.p).toNat : Nat) : Int) =
      c.a.toNat - m.toNat - (1 - (flagC c.p).toNat) + 256 := by
    have := m.isLt
    rw [complement_toNat]
    omega
  have signed : c.a.toInt + (m ^^^ 0xFF#8).toInt + (flagC c.p).toNat = c.a.toInt - m.toInt - (1 - (flagC c.p).toNat) := by
    rw [complement_toInt]
    omega
  rw [signed] at overflow inside
  refine ⟨by omega, ?_, overflow, inside⟩
  rw [carry, decide_eq_true_iff]
  omega

/-- Settles O43: the sums of O42, read as signed and as unsigned numbers. -/
theorem signedOverflowAndBorrow : Obligations.SignedOverflowAndBorrow := by
  intro s v z w overflows adds subtracts
  and_intros
  iterate 8 exact (completesReading_adc rfl rfl).mono Sums.signedSum
  iterate 8 exact (completesReading_sbc rfl rfl).mono Sums.subtracts

end Sys2Proof.Machine

namespace Sys2Proof.Machine

/-! # Shifts, rotates, increments and decrements (44_shift_incdec.md) -/

/-! ## What a shift computes, as numbers (R200 to R203) -/

/-- A shift or rotate whose result is `g` of the byte and the old carry, and whose carry is the byte's bit `k`. -/
def shiftOut (g : Byte → Bool → Byte) (k : Nat) (v : Byte) (c : Bool) : ShiftOut :=
  { result := g v c, carry := v.getLsbD k }

/-- Setting a bit that is clear adds its power of two. -/
theorem setBit_of_clear {b : Byte} {n : Nat} (hn : n < 8) (clear : b.getLsbD n = false) (on : Bool) :
    setBit b n on = b + BitVec.ofNat 8 (2 ^ n * on.toNat) := by
  cases on with
  | false =>
    have same : setBit b n false = b := BitVec.eq_of_getLsbD_eq fun k _ => by
      rw [getLsbD_setBit b n k false hn]
      exact ite_eq_right_iff.mpr fun h => h ▸ clear.symm
    simp [same]
  | true =>
    have disjoint : b &&& BitVec.twoPow 8 n = 0#8 := by simp [BitVec.and_twoPow, clear]
    have power : BitVec.ofNat 8 (2 ^ n) = BitVec.twoPow 8 n := BitVec.eq_of_toNat_eq (by simp)
    rw [Bool.toNat_true, Nat.mul_one, power, BitVec.add_eq_or_of_and_eq_zero b _ disjoint, BitVec.twoPow_eq]
    rfl

theorem shiftLeft_one_eq (v : Byte) : v <<< 1 = BitVec.ofNat 8 (2 * v.toNat) := by bv_omega

theorem shiftRight_one_eq (v : Byte) : v >>> 1 = BitVec.ofNat 8 (v.toNat / 2) := by
  bv_omega

theorem aslOut_eq : aslOut = shiftOut aslByte 7 := by
  funext v c
  rw [aslOut, shiftLeft_one_eq]
  rfl

theorem lsrOut_eq : lsrOut = shiftOut lsrByte 0 := by
  funext v c
  rw [lsrOut, shiftRight_one_eq]
  rfl

/-- The bit that a left shift vacates takes the old carry. -/
theorem rolOut_eq : rolOut = shiftOut rolByte 7 := by
  funext v c
  have vacated : (v <<< 1).getLsbD 0 = false := by simp
  rw [rolOut, setBit_of_clear (by decide) vacated, shiftLeft_one_eq, ← BitVec.ofNat_add, Nat.pow_zero, Nat.one_mul]
  rfl

/-- The bit that a right shift vacates takes the old carry. -/
theorem rorOut_eq : rorOut = shiftOut rorByte 0 := by
  funext v c
  have vacated : (v >>> 1).getLsbD 7 = false := by simp
  rw [rorOut, setBit_of_clear (by decide) vacated, shiftRight_one_eq, ← BitVec.ofNat_add]
  rfl

theorem shiftFlags_flags (p : Byte) (r : ShiftOut) : CZNFrom p (shiftFlags p r) r.carry r.result := by
  refine ⟨by simp [shiftFlags, flagC], by simp [shiftFlags, flagZ], by simp [shiftFlags, flagN], fun k hk => ?_⟩
  fin_cases hk <;> simp [shiftFlags]

/-- Subtracting one is adding $FF, which is how the model moves a byte down (R205, R208, R209). -/
theorem byte_sub_one (b : Byte) : b - 1#8 = b + 0xFF#8 := BitVec.sub_eq_add_neg b 1#8

/-! ## How each meaning completes -/

section
variable {i : Instr} {m : MemOperand} {op : Byte} {cost : Nat} {s : State}
  {f : Byte → Bool → ShiftOut} {g : Byte → Bool → Byte} {k : Nat}

/-- One read and one write of `ea` (R210): `f` of the byte read and the old carry is written, and `newP` of the old flag
byte and the byte read becomes P. -/
theorem completesModifying_cpu (f : Byte → Bool → Byte) (newP : Byte → Byte → Byte) {flags : Byte → Byte → Byte → Byte → Prop}
    (h : exec i s = .next (
      let e := address m s
      let r := memRead e.state e.ea
      charge op e.cross false (memWrite (setP r.state (newP r.state.cpu.p r.value)) e.ea (f r.value (flagC r.state.cpu.p)))))
    (hc : instrCost op = fixedCost cost) (hf : ∀ p v, flags p v (f v (flagC p)) (newP p v)) :
    CompletesModifying i m f flags cost s := by
  simp only [memRead_cpu, address_cpu] at h
  exact completesModifying_of op (newP s.cpu.p) h (instrCycles_untaken hc) (hf s.cpu.p)

theorem completesModifying_shift (hf : f = shiftOut g k) (h : exec i s = .next (shiftMem op f m s))
    (hc : instrCost op = fixedCost cost) : CompletesModifying i m g (fun p v r q => CZNFrom p q (v.getLsbD k) r) cost s := by
  subst hf
  exact completesModifying_cpu g (fun p v => shiftFlags p (shiftOut g k v (flagC p))) h hc fun _ _ => shiftFlags_flags _ _

theorem completesModifying_step {d : Byte} (h : exec i s = .next (stepMem op d m s)) (hc : instrCost op = fixedCost cost) :
    CompletesModifying i m (fun b _ => b + d) StepFlags cost s :=
  completesModifying_cpu (fun b _ => b + d) (fun p v => setZN p (v + d)) h hc fun _ _ => setZN_flags _ _

theorem completesInCpu_shift (hf : f = shiftOut g k) (h : exec i s = .next (shiftA op f s))
    (hc : instrCost op = fixedCost cost) :
    CompletesInCpu i cost (fun c d => d = { c with a := g c.a (flagC c.p), p := d.p, debt := d.debt } ∧
      CZNFrom c.p d.p (c.a.getLsbD k) (g c.a (flagC c.p))) s := by
  subst hf
  exact completesInCpu_of op _ h rfl (instrCycles_untaken hc false) ⟨rfl, shiftFlags_flags _ _⟩

/-- INX, INY, DEX and DEY load their register with itself moved by `d`. -/
theorem completesInCpu_step (r : Reg) {d : Byte}
    (h : exec i s = .next (charge op false false { s with cpu := r.load (r.get s.cpu + d) s.cpu }))
    (hc : instrCost op = fixedCost cost) : CompletesInCpu i cost (fun c => r.Loads (r.get c + d) c) s :=
  completesInCpu_of op _ h (r.load_debt _ _) (instrCycles_untaken hc false) (r.loads_load _ _ _)

end

/-! ## The statements -/

/-- Settles O46: each form is `shiftMem` or `shiftA` of its shift, and the shifts are the numbers stated. -/
theorem shiftsAndRotates : Obligations.ShiftsAndRotates := by
  intro s z w
  and_intros
  · exact completesModifying_shift aslOut_eq rfl rfl
  · exact completesInCpu_shift aslOut_eq rfl rfl
  iterate 3 exact completesModifying_shift aslOut_eq rfl rfl
  · exact completesModifying_shift lsrOut_eq rfl rfl
  · exact completesInCpu_shift lsrOut_eq rfl rfl
  iterate 3 exact completesModifying_shift lsrOut_eq rfl rfl
  · exact completesModifying_shift rolOut_eq rfl rfl
  · exact completesInCpu_shift rolOut_eq rfl rfl
  iterate 3 exact completesModifying_shift rolOut_eq rfl rfl
  · exact completesModifying_shift rorOut_eq rfl rfl
  · exact completesInCpu_shift rorOut_eq rfl rfl
  iterate 3 exact completesModifying_shift rorOut_eq rfl rfl

/-- Settles O47: INC and DEC are `stepMem`, the register forms a load of the register moved by one. -/
theorem incrementsAndDecrements : Obligations.IncrementsAndDecrements := by
  unfold Obligations.IncrementsAndDecrements
  simp only [byte_sub_one]
  rw [← Reg.loads_x, ← Reg.loads_y]
  intro s z w
  and_intros
  iterate 8 exact completesModifying_step rfl rfl
  · exact completesInCpu_step .x rfl rfl
  · exact completesInCpu_step .y rfl rfl
  · exact completesInCpu_step .x rfl rfl
  · exact completesInCpu_step .y rfl rfl

end Sys2Proof.Machine

namespace Sys2Proof.Machine

/-! # Jumps, subroutines, BRK and RTI (45_control_flow.md) -/

/-! ## Jumps (R220) -/

/-- JMP leaves the side effects of its pointer reads, moves PC, and charges its fixed cost. -/
theorem jump_effect {op : Byte} {cost : Nat} (m : MemOperand) (s : State) (hc : instrCost op = fixedCost cost) :
    SameOutsideCpu (address m s).state (jump op m s) ∧ OnlyReadEffects s (address m s).state ∧ SameBytes s (jump op m s) ∧
      (jump op m s).cpu = { s.cpu with pc := (address m s).ea, debt := s.cpu.debt + cost } := by
  have effects := address_effects m s
  refine ⟨rfl, effects, fun k n => ?_, ?_⟩
  · rw [← effects.sameBytes k n]
    exact byteAt_withCpu (address m s).state _ k n
  · simp only [jump, charge_eq, setPc, instrCycles_untaken hc, address_cpu]
    rfl

/-! ## Subroutines (R221, R222) -/

/-- JSR pushes the address of its last byte, and moves SP, PC and the debt. -/
theorem jsr_effect {op : Byte} {cost : Nat} (w : Word) (s : State) (hc : instrCost op = fixedCost cost) :
    OnlyPushed s (jsr op w s) [hi (s.cpu.pc - 1#16), lo (s.cpu.pc - 1#16)] ∧
      (jsr op w s).cpu = { s.cpu with sp := s.cpu.sp - 2#8, pc := w, debt := s.cpu.debt + cost } := by
  have two : s.cpu.sp - 1#8 - 1#8 = s.cpu.sp - 2#8 := by bv_omega
  refine ⟨(push8_twice s _ _).withCpu _, ?_⟩
  simp only [jsr, charge_eq, setPc, push8_eq, instrCycles_untaken hc, two]
  rfl

/-- RTS pops a word and goes one past it. -/
theorem exec_rts (s : State) : exec .rts s = .next (charge 0x60#8 false false { s with
    cpu := { s.cpu with sp := s.cpu.sp + 2#8, pc := word (popped s 2) (popped s 1) + 1#16 } }) := by
  have two : s.cpu.sp + 1#8 + 1#8 = s.cpu.sp + 2#8 := by bv_omega
  rw [show exec .rts s = .next (rts 0x60#8 s) from rfl, rts, pop8_eq, pop8_eq]
  simp only [setSp_sp, two]
  rfl

theorem completesInCpu_rts (s : State) : CompletesInCpu .rts 6 (fun c d =>
    d = { c with sp := c.sp + 2#8, pc := word (popped s 2) (popped s 1) + 1#16, debt := d.debt }) s :=
  completesInCpu_of _ _ (exec_rts s) rfl rfl rfl

/-! ## Popping what was pushed -/

/-- Pops take the bytes pushed off again, the last one first (R170, R171). -/
theorem OnlyPushed.popped_eq {s t : State} {l : List Byte} {k : Nat} {b : Byte} (h : OnlyPushed s t l) (inv : s.Inv)
    (hsp : t.cpu.sp = s.cpu.sp - BitVec.ofNat 8 l.length) (hk : l[k]? = some b) : popped t (l.length - k) = b := by
  obtain ⟨-, -, stored⟩ := h
  obtain ⟨hlt, -⟩ := List.getElem?_eq_some_iff.mp hk
  have split : BitVec.ofNat 8 l.length = BitVec.ofNat 8 k + BitVec.ofNat 8 (l.length - k) := by
    rw [← BitVec.ofNat_add, Nat.add_sub_cancel' hlt.le]
  have slot : t.cpu.sp + BitVec.ofNat 8 (l.length - k) = s.cpu.sp - BitVec.ofNat 8 k := by
    rw [hsp, split]
    bv_omega
  rw [popped, slot, stored inv k b hk]

/-- RTS right after JSR returns to the instruction after the JSR (R222). -/
theorem rts_returns_from_jsr {s t : State} {w : Word} (inv : s.Inv) (run : exec (.jsr w) s = .next t) :
    Completes .rts t fun u => u.cpu.pc = s.cpu.pc ∧ u.cpu.sp = s.cpu.sp ∧ u.cpu.p = s.cpu.p := by
  have ran : jsr 0x20#8 w s = t := Host.Outcome.next.inj run
  obtain ⟨pushed, cpu⟩ := ran ▸ jsr_effect (op := 0x20#8) w s rfl
  have sp : t.cpu.sp = s.cpu.sp - 2#8 := congrArg Cpu.sp cpu
  have high : popped t 2 = hi (s.cpu.pc - 1#16) := pushed.popped_eq (k := 0) inv sp rfl
  have low : popped t 1 = lo (s.cpu.pc - 1#16) := pushed.popped_eq (k := 1) inv sp rfl
  obtain ⟨u, returns, -, -, -, regs⟩ := completesInCpu_rts t
  refine ⟨u, returns, ?_⟩
  beta_reduce
  rw [regs, high, low, cpu, word_hi_lo]
  exact ⟨BitVec.sub_add_cancel _ _, BitVec.sub_add_cancel _ _, rfl⟩

/-- Settles O48: JMP in both forms is `jump`, JSR two pushes, RTS two pops, and the pops take what the pushes stored. -/
theorem jumpsAndSubroutines : Obligations.JumpsAndSubroutines := by
  intro s w
  exact ⟨completesInCpu_of 0x4C#8 { s.cpu with pc := w } rfl rfl rfl rfl, ⟨_, rfl, jump_effect (.ind w) s rfl⟩,
    ⟨_, rfl, jsr_effect w s rfl⟩, completesInCpu_rts s, fun inv _ => rts_returns_from_jsr inv⟩

/-! ## Taking an exception (R232; 60_exceptions.md R343, R344) -/

/-- `t` is `s` after an exception that returns to `ret` was taken through `vec`: three bytes pushed, B as given in the copy
of P, and of the registers SP, I, PC and the debt moved. -/
def Entered (s : State) (ret : Word) (b : Bool) (vec : Word) (debt : Nat) (t : State) : Prop :=
  ∃ f, PushedFlags s.cpu.p f b ∧ OnlyPushed s t [hi ret, lo ret, f] ∧
    t.cpu = { s.cpu with sp := s.cpu.sp - 3#8, p := t.cpu.p, pc := vectorWord s vec, debt := debt } ∧
      flagI t.cpu.p = true ∧ SameFlags [0, 1, 3, 4, 5, 6, 7] s.cpu.p t.cpu.p

/-- What is pushed on a state is pushed on any state that differs from it in other registers than SP. -/
theorem OnlyPushed.of_withCpu {s t : State} {c : Cpu} {l : List Byte} (h : OnlyPushed { s with cpu := c } t l)
    (hsp : c.sp = s.cpu.sp) : OnlyPushed s t l := by
  obtain ⟨frame, other, stored⟩ := h
  simp only [hsp, byteAt_withCpu] at other stored
  exact ⟨frame, other, fun inv => stored (inv.congr rfl rfl rfl rfl rfl)⟩

theorem entered_enterVector {s : State} {f : Byte} {b : Bool} {vec : Word} (ret : Word) (debt : Nat)
    (hf : PushedFlags s.cpu.p f b) (h : 0x8000 ≤ vec.toNat) (h' : 0x8000 ≤ (vec + 1#16).toNat) :
    Entered s ret b vec debt (setDebt (enterVector (setPc s ret) f vec) debt) := by
  obtain ⟨pushed, cpu⟩ := enterVector_effect (setPc s ret) f vec h h'
  have pushedOn : OnlyPushed s (enterVector (setPc s ret) f vec) [hi ret, lo ret, f] := pushed.of_withCpu rfl
  refine ⟨f, hf, pushedOn.withCpu _, ?_⟩
  simp only [setDebt, cpu]
  exact ⟨rfl, setI_flags s.cpu.p⟩

/-- BRK enters through `VEC_IRQ` to return to the byte after its padding byte; no flag gates it. -/
theorem entered_brk (s : State) : Entered s (s.cpu.pc + 1#16) true vecIrq (s.cpu.debt + 7) (brk 0x00#8 s) := by
  have debt : (enterVector (setPc s (s.cpu.pc + 1#16)) (pushedBySoftware s.cpu.p) vecIrq).cpu.debt = s.cpu.debt := by
    rw [(enterVector_effect _ _ vecIrq (by decide) (by decide)).2]
    rfl
  have charged : brk 0x00#8 s = setDebt (enterVector (setPc s (s.cpu.pc + 1#16)) (pushedBySoftware s.cpu.p) vecIrq)
      (s.cpu.debt + 7) := by
    rw [brk, charge, debt]
    rfl
  rw [charged]
  exact entered_enterVector _ _ (pushedBySoftware_flags _) (by decide) (by decide)

theorem entered_cpuNmi (s : State) : Entered s s.cpu.pc false vecNmi 7 (cpuNmi s) :=
  entered_enterVector _ _ (pushedByInterrupt_flags _) (by decide) (by decide)

/-- An IRQ enters unless `I` gates it (60_exceptions.md R346). -/
theorem entered_cpuIrq {s : State} (unmasked : flagI s.cpu.p = false) : Entered s s.cpu.pc false vecIrq 7 (cpuIrq s) := by
  rw [cpuIrq, unmasked]
  exact entered_enterVector _ _ (pushedByInterrupt_flags _) (by decide) (by decide)

/-- Settles O50: BRK is an entry through the word at $FFFE, with B set in the copy of P. -/
theorem breakTakesTheIrqVector : Obligations.BreakTakesTheIrqVector :=
  fun s => ⟨_, rfl, entered_brk s⟩

/-! ## Returning from an exception (R233; 60_exceptions.md R349) -/

theorem exec_rti (s : State) : exec .rti s = .next (charge 0x40#8 false false { s with
    cpu := { s.cpu with sp := s.cpu.sp + 3#8, p := rtiFlags (popped s 1), pc := word (popped s 3) (popped s 2) } }) := by
  rw [← returnFromInterrupt_eq]
  rfl

theorem completesInCpu_rti (s : State) : CompletesInCpu .rti 6 (fun c d =>
    d = { c with sp := c.sp + 3#8, p := d.p, pc := word (popped s 3) (popped s 2), debt := d.debt } ∧
      SameFlags [0, 1, 2, 3, 6, 7] (popped s 1) d.p ∧ d.p.getLsbD 4 = false ∧ d.p.getLsbD 5 = false) s :=
  completesInCpu_of _ _ (exec_rti s) rfl rfl ⟨rfl, rtiFlags_flags _⟩

theorem SameFlags.trans {bits : List Nat} {p q r : Byte} (h : SameFlags bits p q) (k : SameFlags bits q r) :
    SameFlags bits p r := fun i hi => (k i hi).trans (h i hi)

/-- RTI right after an entry pops the three bytes that the entry pushed: PC, SP and the six flags are as before it. -/
theorem Entered.undone_by_rti {s t : State} {ret vec : Word} {b : Bool} {debt : Nat} (h : Entered s ret b vec debt t)
    (inv : s.Inv) : Completes .rti t fun u => u.cpu.pc = ret ∧ u.cpu.sp = s.cpu.sp ∧ u.cpu.a = s.cpu.a ∧
      u.cpu.x = s.cpu.x ∧ u.cpu.y = s.cpu.y ∧ SameFlags [0, 1, 2, 3, 6, 7] s.cpu.p u.cpu.p := by
  obtain ⟨f, ⟨-, -, copied⟩, pushed, cpu, -, -⟩ := h
  have sp : t.cpu.sp = s.cpu.sp - 3#8 := congrArg Cpu.sp cpu
  have high : popped t 3 = hi ret := pushed.popped_eq (k := 0) inv sp rfl
  have low : popped t 2 = lo ret := pushed.popped_eq (k := 1) inv sp rfl
  have flags : popped t 1 = f := pushed.popped_eq (k := 2) inv sp rfl
  obtain ⟨u, returns, -, -, -, regs, restored, -, -⟩ := completesInCpu_rti t
  have six : SameFlags [0, 1, 2, 3, 6, 7] s.cpu.p u.cpu.p := copied.trans (flags ▸ restored)
  refine ⟨u, returns, ?_⟩
  beta_reduce
  rw [regs, high, low, cpu, word_hi_lo]
  exact ⟨rfl, BitVec.sub_add_cancel _ _, rfl, rfl, rfl, six⟩

/-- Settles O51: RTI pops three bytes, and after each of the three entries they are the ones pushed. (The
name `returnFromInterrupt` is the model's operation.) -/
theorem returnFromInterruptUndoesEntries : Obligations.ReturnFromInterrupt := by
  refine fun s => ⟨completesInCpu_rti s, fun inv => ⟨(entered_cpuNmi s).undone_by_rti inv,
    fun unmasked => (entered_cpuIrq unmasked).undone_by_rti inv, fun t run => ?_⟩⟩
  have entered : Entered s _ true vecIrq _ t := Host.Outcome.next.inj run ▸ entered_brk s
  exact entered.undone_by_rti inv

end Sys2Proof.Machine

namespace Sys2Proof.Machine

/-! # The flag instructions, NOP and the undefined opcodes (46_flags_nop_illegal.md) -/

/-! ## The flag instructions and NOP (R240 to R247) -/

/-- An instruction that gives flag `k` the value `on` and does nothing else. -/
theorem completesInCpu_setFlag {i : Instr} {op : Byte} {k cost : Nat} {on : Bool} {s : State}
    (h : exec i s = .next (setFlags op (setBit s.cpu.p k on) s)) (hc : instrCost op = fixedCost cost) (hk : k < 8) :
    CompletesInCpu i cost (SetsFlag k on) s :=
  completesInCpu_of op { s.cpu with p := setBit s.cpu.p k on } h rfl (instrCycles_untaken hc false)
    ⟨rfl, setBit_flags s.cpu.p k on hk⟩

/-- Settles O52: each of the seven sets one bit of P to a constant, and NOP sets P to itself. -/
theorem flagInstructionsAndNop : Obligations.FlagInstructionsAndNop := by
  intro s
  have nop : CompletesInCpu .nop 2 (fun c d => d = { c with debt := d.debt }) s :=
    completesInCpu_of 0xEA#8 s.cpu rfl rfl rfl rfl
  refine ⟨?_, ?_, ?_, ?_, ?_, ?_, ?_, nop⟩ <;> exact completesInCpu_setFlag rfl rfl (by decide)

/-! ## The undefined opcodes (R248) -/

/-- The opcode map's row at an undefined opcode byte faults with that byte, whatever operand bytes `b` and `c` follow. -/
theorem exec_undefined {op : Byte} {i : Instr} (b c : Byte) (row : decodeOp op b c = i) (undefined : op ∈ undefinedOpcodes)
    (s : State) : exec i s = .fault (.illegalOpcode op s) := by
  obtain ⟨-, faults⟩ | ⟨defined, -⟩ := exec_decodeOp op b c
  · exact row ▸ faults s
  · exact absurd undefined defined

/-- Settles O7: each of the 105 instructions is the opcode map's row at its undefined opcode byte. -/
theorem undefinedOpcodesFault : Obligations.UndefinedOpcodesFault := by
  intro s
  and_intros <;> exact exec_undefined 0#8 0#8 (by rfl) (by decide) s

/-! ## What stops a step -/

/-- An undefined opcode byte has no operand bytes, so it is all that is fetched (R110). -/
theorem fetch_undefined {s : State} (h : (fetch8 s).value ∈ undefinedOpcodes) : (fetch s).state = (fetch8 s).state := by
  rw [fetch, undefinedOpcodes_length_one _ h]
  rfl

/-- With no cycle owed, the CPU's cycle runs the opcode map's row at the byte that the first `Fetch8` gives (R390). -/
theorem stepCpu_idle {s : State} (idle : s.cpu.debt = 0) :
    ∃ b c, stepCpu s = thenNext (exec (decodeOp (fetch8 s).value b c) (fetch s).state) payCycle :=
  ⟨_, _, if_pos idle⟩

/-- The CPU's cycle stops on an undefined opcode byte, with PC past it (log 13). -/
theorem stepCpu_undefined {s : State} (idle : s.cpu.debt = 0) (undefined : (fetch8 s).value ∈ undefinedOpcodes) :
    stepCpu s = .fault (.illegalOpcode (fetch8 s).value (fetch8 s).state) := by
  obtain ⟨b, c, runs⟩ := stepCpu_idle idle
  rw [runs, exec_undefined b c rfl undefined, fetch_undefined undefined, thenNext]

/-- Every other cycle of the CPU completes: it pays an owed cycle, or it runs the row of a defined opcode byte. -/
theorem stepCpu_completes {s : State} (h : ¬(s.cpu.debt = 0 ∧ (fetch8 s).value ∈ undefinedOpcodes)) :
    ∃ t, stepCpu s = .next t := by
  by_cases idle : s.cpu.debt = 0
  · obtain ⟨b, c, runs⟩ := stepCpu_idle idle
    obtain ⟨undefined, -⟩ | ⟨-, completes⟩ := exec_decodeOp (fetch8 s).value b c
    · exact absurd ⟨idle, undefined⟩ h
    · obtain ⟨t, run⟩ := completes (fetch s).state
      exact ⟨payCycle t, by rw [runs, run, thenNext]⟩
  · exact ⟨payCycle s, if_neg idle⟩

/-- Settles O58: the CPU's cycle is the only part of a step that can stop, and it stops on an undefined opcode byte alone. -/
theorem onlyUndefinedOpcodesStop : Obligations.OnlyUndefinedOpcodesStop := by
  intro s u
  have ran : step s = thenNext (stepCpu u) endTick := rfl
  split
  case isTrue h =>
    obtain ⟨idle, undefined⟩ := h
    rw [ran, stepCpu_undefined idle undefined, thenNext]
  case isFalse h =>
    obtain ⟨t, run⟩ := stepCpu_completes h
    exact ⟨endTick t, by rw [ran, run, thenNext]⟩

end Sys2Proof.Machine

namespace Sys2Proof.Machine

/-! # The PPU's registers (47_ppu_registers.md) -/

/-! ## The register behind each address (R260, R278) -/

section
variable (s : State) (d : Byte)

theorem memWrite_ctrl : memWrite s 0x2000#16 d = writeCtrl s d := rfl
theorem memWrite_mask : memWrite s 0x2001#16 d = writeMask s d := rfl
theorem memWrite_status : memWrite s 0x2002#16 d = s := rfl
theorem memWrite_oamAddr : memWrite s 0x2003#16 d = writeOamAddr s d := rfl
theorem memWrite_oamData : memWrite s 0x2004#16 d = writeOamData s d := rfl
theorem memWrite_scroll : memWrite s 0x2005#16 d = writeScroll s d := rfl
theorem memWrite_addr : memWrite s 0x2006#16 d = writeAddr s d := rfl
theorem memWrite_ppuData : memWrite s 0x2007#16 d = writePpuData s d := rfl

end

/-! ## PPUCTRL, PPUMASK, OAMADDR and OAMDATA (R262, R264, R266, R268, R269, R276) -/

/-- A two-bit field at bit 10 is the two nametable bits. -/
theorem vramFields_putNametable (v : Word) (x : Nat) :
    vramFields (putField v 10 2 x) = { vramFields v with ntX := x % 2, ntY := x / 2 % 2 } := by
  have low (w : Word) : field w 10 1 = field w 10 2 % 2 := by
    simp only [field_eq]
    omega
  have high (w : Word) : field w 11 1 = field w 10 2 / 2 := by
    simp only [field_eq]
    omega
  have bits : x % 2 ^ 2 % 2 = x % 2 ∧ x % 2 ^ 2 / 2 = x / 2 % 2 := by omega
  simp only [vramFields_eq, low (putField v 10 2 x), high (putField v 10 2 x), field_putField_same v 10 2 x (by decide), bits,
    field_putField_other v 10 2 x 0 5 (by decide) (by decide), field_putField_other v 10 2 x 5 5 (by decide) (by decide),
    field_putField_other v 10 2 x 12 3 (by decide) (by decide), field_putField_other v 10 2 x 15 1 (by decide) (by decide)]

/-- A PPUCTRL write puts bits 1:0 of the byte into the nametable bits of `t`. -/
theorem writeCtrl_eq (s : State) (d : Byte) : ∃ t, writeCtrl s d = { s with ppu := { s.ppu with ctrl := d, t := t } } ∧
    vramFields t = { vramFields s.ppu.t with ntX := d.toNat % 2, ntY := d.toNat / 2 % 2 } := by
  have bits : d.toNat % 4 % 2 = d.toNat % 2 ∧ d.toNat % 4 / 2 % 2 = d.toNat / 2 % 2 := by omega
  refine ⟨putField s.ppu.t 10 2 (d.toNat % 4), rfl, ?_⟩
  rw [vramFields_putNametable, bits.1, bits.2]

/-- The byte goes to OAM at `oamaddr`, and `oamaddr` moves on modulo 256. -/
theorem writeOamData_eq (s : State) (d : Byte) : writeOamData s d =
    { putByte s .oam s.ppu.oamaddr.toNat d with
      ppu := { (putByte s .oam s.ppu.oamaddr.toNat d).ppu with oamaddr := BitVec.ofNat 8 (s.ppu.oamaddr.toNat + 1) } } := by
  have next : BitVec.ofNat 8 (s.ppu.oamaddr.toNat + 1) = s.ppu.oamaddr + 1#8 := by
    rw [BitVec.ofNat_add, BitVec.ofNat_toNat, BitVec.setWidth_eq]
  rw [next]
  rfl

/-- Settles O18: each access is the one its register has; the writes that compute something are
`writeCtrl_eq` and `writeOamData_eq`. -/
theorem plainRegisterAccesses : Obligations.PlainRegisterAccesses := by
  intro s d
  rw [memWrite_ctrl, memWrite_mask, memWrite_status, memWrite_oamAddr, memWrite_oamData]
  exact ⟨writeCtrl_eq s d, rfl, rfl, rfl, memRead_oamData s (by decide) (by decide) rfl, writeOamData_eq s d⟩

/-! ## PPUADDR (R271) -/

theorem and_word (h l h' l' : Byte) : word h l &&& word h' l' = word (h &&& h') (l &&& l') := BitVec.and_append

theorem or_word (h l h' l' : Byte) : word h l ||| word h' l' = word (h ||| h') (l ||| l') := BitVec.or_append

theorem zext16_eq_word (b : Byte) : zext16 b = word 0#8 b := by
  apply BitVec.eq_of_toNat_eq
  rw [zext16_toNat, word_toNat, BitVec.toNat_ofNat]
  omega

theorem zext16_shiftLeft_eq_word (b : Byte) : zext16 b <<< 8 = word b 0#8 := by
  have := b.isLt
  apply BitVec.eq_of_toNat_eq
  rw [BitVec.toNat_shiftLeft, zext16_toNat, word_toNat, BitVec.toNat_ofNat, Nat.shiftLeft_eq]
  omega

/-- Keeping a word's low byte and putting `h` in above it. -/
theorem replaceHigh_eq_word (w : Word) (h : Byte) : (w &&& 0x00FF#16) ||| (zext16 h <<< 8) = word h (lo w) := by
  have mask : 0x00FF#16 = word 0x00#8 (BitVec.allOnes 8) := rfl
  rw [← word_hi_lo w, mask, and_word, zext16_shiftLeft_eq_word, or_word, word_hi_lo, BitVec.and_zero, BitVec.zero_or,
    BitVec.and_allOnes, BitVec.or_zero]

/-- Keeping a word's high byte and putting `l` in below it. -/
theorem replaceLow_eq_word (w : Word) (l : Byte) : (w &&& 0xFF00#16) ||| zext16 l = word (hi w) l := by
  have mask : 0xFF00#16 = word (BitVec.allOnes 8) 0x00#8 := rfl
  rw [← word_hi_lo w, mask, and_word, zext16_eq_word, or_word, word_hi_lo, BitVec.and_allOnes, BitVec.or_zero, BitVec.and_zero,
    BitVec.zero_or]

section
variable {s : State} (d : Byte)

theorem writeAddr_first (h : s.ppu.w = false) :
    writeAddr s d = { s with ppu := { s.ppu with t := word (d &&& 0x3F#8) (lo s.ppu.t), w := true } } := by
  simp only [writeAddr, h, replaceHigh_eq_word, Bool.false_eq_true, if_false]

theorem writeAddr_second (h : s.ppu.w = true) : writeAddr s d =
    { s with ppu := { s.ppu with t := word (hi s.ppu.t) d, v := word (hi s.ppu.t) d, w := false } } := by
  simp only [writeAddr, h, replaceLow_eq_word, if_true]

/-- Two PPUADDR writes from a clear toggle give `v` its high and its low byte. -/
theorem writeAddr_pair (h : s.ppu.w = false) (l : Byte) : (writeAddr (writeAddr s d) l).ppu.v = word (d &&& 0x3F#8) l := by
  rw [writeAddr_first d h, writeAddr_second l rfl]
  exact congrArg (word · l) (hi_word _ _)

end

/-! ## PPUSTATUS and the write-only registers (R265, R275) -/

/-- The flags of PPUSTATUS stand in bits 7, 6 and 5, whatever the free bits are. -/
theorem statusByte_flags (p : Ppu) (low : BitVec 5) : (statusByte p low).getLsbD 7 = p.vblank ∧
    (statusByte p low).getLsbD 6 = p.spr0Hit ∧ (statusByte p low).getLsbD 5 = p.sprOverflow := by
  simp only [statusByte, getLsbD_setBit, Nat.reduceLT, Nat.reduceEqDiff, if_true, if_false, and_self]

/-- Each of the five write-only registers is read as `OpenBus`. -/
theorem memRead_writeOnlyRegister (s : State) : ∀ r ∈ [0x2000#16, 0x2001#16, 0x2003#16, 0x2005#16, 0x2006#16],
    memRead s r = readOpenBus s := by
  simp only [List.forall_mem_cons]
  exact ⟨rfl, rfl, rfl, rfl, rfl, List.forall_mem_nil _⟩

/-- Settles O19: a PPUSTATUS read leaves the toggle clear, so the next PPUADDR write is the first of a pair. -/
theorem statusAndWriteOnlyReads : Obligations.StatusAndWriteOnlyReads := by
  intro s
  have status : memRead s 0x2002#16 = readStatus s := memRead_status s (by decide) (by decide) rfl
  rw [status]
  refine ⟨statusByte_flags s.ppu _, ⟨s.draws + 1, rfl⟩, fun h l => ?_, fun r hr => ⟨s.draws + 1, ?_⟩⟩
  · rw [memWrite_addr, memWrite_addr]
    exact writeAddr_pair h rfl l
  · rw [memRead_writeOnlyRegister s r hr]
    rfl

/-! ## PPUSCROLL (R270) -/

section
variable {s : State} (d : Byte)

theorem writeScroll_first_asDocument (h : s.ppu.w = false) (order : s.config.fineOrder = .asDocument) :
    writeScroll s d = { s with
      ppu := { s.ppu with t := putField (putField s.ppu.t 0 5 (d.toNat >>> 3)) 12 3 (d.toNat % 8), w := true } } := by
  simp only [writeScroll, writeScrollFirst, h, order, Bool.false_eq_true, if_false]

theorem writeScroll_second_asDocument (h : s.ppu.w = true) (order : s.config.fineOrder = .asDocument) :
    writeScroll s d = { s with
      ppu := { s.ppu with t := putField s.ppu.t 5 5 (d.toNat >>> 3), fineX := d.setWidth 3, w := false } } := by
  simp only [writeScroll, writeScrollSecond, h, order, if_true]

theorem writeScroll_first_as2c02 (h : s.ppu.w = false) (order : s.config.fineOrder = .as2c02) :
    writeScroll s d = { s with
      ppu := { s.ppu with t := putField s.ppu.t 0 5 (d.toNat >>> 3), fineX := d.setWidth 3, w := true } } := by
  simp only [writeScroll, writeScrollFirst, h, order, Bool.false_eq_true, if_false]

theorem writeScroll_second_as2c02 (h : s.ppu.w = true) (order : s.config.fineOrder = .as2c02) :
    writeScroll s d = { s with
      ppu := { s.ppu with t := putField (putField s.ppu.t 5 5 (d.toNat >>> 3)) 12 3 (d.toNat % 8), w := false } } := by
  simp only [writeScroll, writeScrollSecond, h, order, if_true]

/-- The high five bits of a byte fill a coarse field exactly. -/
theorem coarseBits (d : Byte) : (d.toNat >>> 3) % 32 = d.toNat / 8 := by
  have := d.isLt
  rw [Nat.shiftRight_eq_div_pow]
  omega

variable (t : Word)

theorem vramFields_scrollX : vramFields (putField t 0 5 (d.toNat >>> 3)) = { vramFields t with coarseX := d.toNat / 8 } := by
  rw [vramFields_putCoarseX, coarseBits]

theorem vramFields_scrollY : vramFields (putField t 5 5 (d.toNat >>> 3)) = { vramFields t with coarseY := d.toNat / 8 } := by
  rw [vramFields_putCoarseY, coarseBits]

theorem vramFields_scrollFine : vramFields (putField t 12 3 (d.toNat % 8)) = { vramFields t with fineY := d.toNat % 8 } := by
  rw [vramFields_putFineY, Nat.mod_mod]

end

/-- Settles O20: the toggle and the fine order select one of four PPUSCROLL writes, the toggle one of two PPUADDR writes. -/
theorem scrollAndAddressWrites : Obligations.ScrollAndAddressWrites := by
  intro s d
  dsimp only
  rw [memWrite_scroll, memWrite_addr]
  refine ⟨fun h order => ⟨_, writeScroll_first_asDocument d h order, ?_⟩,
    fun h order => ⟨_, _, writeScroll_second_asDocument d h order, vramFields_scrollY d _, BitVec.toNat_setWidth 3 d⟩,
    fun h order => ⟨_, _, writeScroll_first_as2c02 d h order, vramFields_scrollX d _, BitVec.toNat_setWidth 3 d⟩,
    fun h order => ⟨_, writeScroll_second_as2c02 d h order, ?_⟩,
    fun h => ⟨_, writeAddr_first d h, ?_⟩, fun h => ⟨_, writeAddr_second d h, ?_⟩⟩
  · rw [vramFields_scrollFine, vramFields_scrollX]
  · rw [vramFields_scrollFine, vramFields_scrollY]
  · have low : (d &&& 0x3F#8).toNat = d.toNat % 64 := Nat.and_two_pow_sub_one_eq_mod d.toNat 6
    rw [word_toNat, low, lo_toNat]
  · rw [word_toNat, hi_toNat]

/-! ## PPUDATA (R272, R273) -/

section
variable (s : State) (a : Word) (d : Byte)

theorem mask14_idem : (a &&& 0x3FFF#16) &&& 0x3FFF#16 = a &&& 0x3FFF#16 := by
  rw [BitVec.and_assoc, BitVec.and_self]

/-- The PPU bus drops the top two address bits itself, so a register access need not. -/
theorem ppuRead_mask14 : ppuRead s.config s.chrRam s.ppu (a &&& 0x3FFF#16) = ppuRead s.config s.chrRam s.ppu a := by
  simp only [ppuRead, mask14_idem]

theorem ppuWrite_mask14 : ppuWrite s (a &&& 0x3FFF#16) d = ppuWrite s a d := by
  simp only [ppuWrite, mask14_idem]

theorem putByte_vram (m : Store) (n : Nat) : (putByte s m n d).ppu.v = s.ppu.v ∧ (putByte s m n d).ppu.ctrl = s.ppu.ctrl := by
  cases m <;> exact ⟨rfl, rfl⟩

/-- A PPU bus write moves neither `v` nor the increment that PPUCTRL selects. -/
theorem ppuWrite_vram : (ppuWrite s a d).ppu.v = s.ppu.v ∧ (ppuWrite s a d).ppu.ctrl = s.ppu.ctrl := by
  rw [ppuWrite_cell]
  split
  · exact putByte_vram s d _ _
  · exact ⟨rfl, rfl⟩

theorem readPpuData_eq : readPpuData s = {
    value := if s.ppu.v.toNat % 16384 ≤ 0x3EFF then s.ppu.dataBuf else ppuRead s.config s.chrRam s.ppu s.ppu.v
    state := { s with ppu := { s.ppu with
      dataBuf := ppuRead s.config s.chrRam s.ppu s.ppu.v, v := s.ppu.v + vramStep s.ppu } } } := by
  simp only [readPpuData, ppuRead_mask14, and_low14_toNat]

/-- The state with the VRAM address set. -/
def setVram (v : Word) : State := { s with ppu := { s.ppu with v := v } }

theorem writePpuData_eq : writePpuData s d = setVram (ppuWrite s s.ppu.v d) (s.ppu.v + vramStep s.ppu) := by
  obtain ⟨sameV, sameCtrl⟩ := ppuWrite_vram s s.ppu.v d
  simp only [writePpuData, ppuWrite_mask14, setVram, vramStep, sameV, sameCtrl]

end

/-- Settles O21: the byte behind `v` is that of its low 14 bits, and the bus access keeps `v` for the increment. -/
theorem ppuDataAccess : Obligations.PpuDataAccess := by
  intro s d
  constructor
  · rw [memRead_ppuData s (by decide) (by decide) rfl]
    exact readPpuData_eq s
  · rw [memWrite_ppuData, writePpuData_eq]
    exact congrArg (setVram · _) (ppuWrite_cell s s.ppu.v d)

/-! ## The rendering pipeline (R277) -/

/-- Settles O22: a read and a write both change the PPU in its register state alone, and none of the pipeline is in that. -/
theorem registerAccessKeepsThePipeline : Obligations.RegisterAccessKeepsThePipeline := by
  intro s a v q hq
  have registers : OnlyRegisterState s.ppu q := by
    obtain rfl | rfl : q = (memRead s a).state.ppu ∨ q = (memWrite s a v).ppu := by simpa using hq
    · exact (memRead_effects s a).registers
    · exact memWrite_registers s a v
  rw [registers]
  and_intros <;> rfl

end Sys2Proof.Machine

namespace Sys2Proof.Machine

/-! # The PPU's pipeline (48_ppu_pipeline.md) -/

/-! ## The windows of the actions (R290) -/

/-- Scanline `s`, cycle `c` lies in the window of the sprite fetch (R313). -/
abbrev SpriteFetchCycle (s : Int) (c : Nat) : Prop := 0 ≤ s ∧ s ≤ 239 ∧ 257 ≤ c ∧ c ≤ 320

section
variable {g : Config} {r : Memory 8} {s : Int} {c : Nat} {p : Ppu}

theorem inFetchWindow_iff : inFetchWindow s c = true ↔ FetchCycle s c := by
  simp only [inFetchWindow, Bool.and_eq_true, Bool.or_eq_true, decide_eq_true_eq]

theorem inVisibleWindow_iff : inVisibleWindow s c = true ↔ PixelCycle s c := by
  simp only [inVisibleWindow, Bool.and_eq_true, decide_eq_true_eq, and_assoc]

theorem preRenderClear_on (h : s = -1 ∧ c = 1) : preRenderClear s c p = { p with
    vblank := false, spr0Hit := false, sprOverflow := false, frameComplete := false
    slots := p.slots.map fun sl => { sl with lo := 0#8, hi := 0#8 } } := if_pos h

theorem preRenderClear_off (h : ¬(s = -1 ∧ c = 1)) : preRenderClear s c p = p := if_neg h

theorem backgroundFetch_on (h : FetchCycle s c) : backgroundFetch g r s c p = fetchPhase g r c p :=
  if_pos (inFetchWindow_iff.mpr h)

theorem backgroundFetch_off (h : ¬FetchCycle s c) : backgroundFetch g r s c p = p := if_neg (mt inFetchWindow_iff.mp h)

theorem composePixel_on (h : PixelCycle s c) : composePixel g r s c p = outputPixel g r s (c - 1) p :=
  if_pos (inVisibleWindow_iff.mpr h)

theorem composePixel_off (h : ¬PixelCycle s c) : composePixel g r s c p = p := if_neg (mt inVisibleWindow_iff.mp h)

theorem shiftBackground_off (h : ¬FetchCycle s c) : shiftBackground s c p = p := by
  rw [shiftBackground, Bool.eq_false_iff.mpr (mt inFetchWindow_iff.mp h)]
  rfl

/-- The condition under which sprite evaluation and the slots' advance are at work. -/
theorem visibleRendering_iff :
    (inVisibleWindow s c && renderingEnabled p) = true ↔ PixelCycle s c ∧ renderingEnabled p = true := by
  rw [Bool.and_eq_true, inVisibleWindow_iff]

theorem advanceSlots_on (window : PixelCycle s c) (rendering : renderingEnabled p = true) :
    advanceSlots s c p = { p with slots := p.slots.map advanceSlot } := if_pos (visibleRendering_iff.mpr ⟨window, rendering⟩)

theorem advanceSlots_off (h : ¬(PixelCycle s c ∧ renderingEnabled p = true)) : advanceSlots s c p = p :=
  if_neg (mt visibleRendering_iff.mp h)

theorem updateAddress_off (h : ¬(s ≤ 239 ∧ 256 ≤ c ∧ c ≤ 304)) : updateAddress s c p = p := by
  unfold updateAddress
  split
  case isTrue on =>
    simp only [Bool.and_eq_true, decide_eq_true_eq] at on
    rw [if_neg (by omega), if_neg (by omega), if_neg (by omega)]
  case isFalse => rfl

theorem evaluateSprites_on (window : PixelCycle s c) (rendering : renderingEnabled p = true) :
    evaluateSprites s c p = evaluationCycle s c p := if_pos (visibleRendering_iff.mpr ⟨window, rendering⟩)

theorem evaluateSprites_off (h : ¬(PixelCycle s c ∧ renderingEnabled p = true)) : evaluateSprites s c p = p :=
  if_neg (mt visibleRendering_iff.mp h)

theorem spriteFetchRendering_iff :
    (decide (0 ≤ s) && decide (s ≤ 239) && renderingEnabled p && decide (257 ≤ c) && decide (c ≤ 320)) = true ↔
      SpriteFetchCycle s c ∧ renderingEnabled p = true := by
  simp only [Bool.and_eq_true, decide_eq_true_eq]
  tauto

theorem fetchSprites_on (window : SpriteFetchCycle s c) (rendering : renderingEnabled p = true) :
    fetchSprites g r s c p = fetchSlot g r s ((c - 257) / 8) ((c - 257) % 8)
      { p with spr0Cur := if c = 257 then p.spr0Next else p.spr0Cur } := by
  rw [fetchSprites, if_pos (spriteFetchRendering_iff.mpr ⟨window, rendering⟩)]
  dsimp only
  split <;> rfl

theorem fetchSprites_off (h : ¬(SpriteFetchCycle s c ∧ renderingEnabled p = true)) : fetchSprites g r s c p = p :=
  if_neg (mt spriteFetchRendering_iff.mp h)

end

/-! ## What a cycle does, part by part

The ten actions run one after the other, yet each reads only what no action before it in the same cycle has changed, the
background fetch apart: actions 3, 4 and 6 see what it fetched. So a cycle acts on each part of the PPU as one or two
actions do. -/

/-- Each part of the PPU after a cycle, by the actions that write it; the pre-render clear apart. -/
def cycleParts (g : Config) (r : Memory 8) (p : Ppu) : Ppu :=
  let fetched := backgroundFetch g r p.scanline p.cycle p
  let shifted := shiftBackground p.scanline p.cycle fetched
  let composed := composePixel g r p.scanline p.cycle fetched
  let evaluated := evaluateSprites p.scanline p.cycle p
  let blanked := vblankEntry p.scanline p.cycle p
  let counted := advanceCounters p
  { p with
    ntLatch := fetched.ntLatch, atLatch := fetched.atLatch, patLoLatch := fetched.patLoLatch, patHiLatch := fetched.patHiLatch
    bgPatLo := shifted.bgPatLo, bgPatHi := shifted.bgPatHi, bgAtLo := shifted.bgAtLo, bgAtHi := shifted.bgAtHi
    v := (updateAddress p.scanline p.cycle fetched).v
    spr0Hit := composed.spr0Hit, framebuffer := composed.framebuffer, frameComplete := composed.frameComplete
    soam := evaluated.soam, evN := evaluated.evN, evM := evaluated.evM, evFound := evaluated.evFound
    evMode := evaluated.evMode, evLatch := evaluated.evLatch, spr0Next := evaluated.spr0Next
    sprOverflow := evaluated.sprOverflow
    slots := (fetchSprites g r p.scanline p.cycle (advanceSlots p.scanline p.cycle p)).slots
    spr0Cur := (fetchSprites g r p.scanline p.cycle p).spr0Cur
    vblank := blanked.vblank, nmiPending := blanked.nmiPending
    cycle := counted.cycle, scanline := counted.scanline, oddFrame := counted.oddFrame }

/-- Actions 2 to 6 of a cycle. -/
def drawing (g : Config) (r : Memory 8) (s : Int) (c : Nat) (p : Ppu) : Ppu :=
  updateAddress s c (advanceSlots s c (shiftBackground s c (composePixel g r s c (backgroundFetch g r s c p))))

/-- Two PPU states that differ at most in what actions 2 to 6 of a cycle write. -/
def OnlyDrawing (p q : Ppu) : Prop :=
  q = { p with
    ntLatch := q.ntLatch, atLatch := q.atLatch, patLoLatch := q.patLoLatch, patHiLatch := q.patHiLatch
    bgPatLo := q.bgPatLo, bgPatHi := q.bgPatHi, bgAtLo := q.bgAtLo, bgAtHi := q.bgAtHi, v := q.v, slots := q.slots
    spr0Hit := q.spr0Hit, framebuffer := q.framebuffer, frameComplete := q.frameComplete }

section
variable {g : Config} {r : Memory 8} {s : Int} {c : Nat} {p q : Ppu}

/-- Of actions 3 to 6 none reads what another writes. -/
theorem drawing_eq :
    let f := backgroundFetch g r s c p
    drawing g r s c p = { f with
      spr0Hit := (composePixel g r s c f).spr0Hit, framebuffer := (composePixel g r s c f).framebuffer
      frameComplete := (composePixel g r s c f).frameComplete
      bgPatLo := (shiftBackground s c f).bgPatLo, bgPatHi := (shiftBackground s c f).bgPatHi
      bgAtLo := (shiftBackground s c f).bgAtLo, bgAtHi := (shiftBackground s c f).bgAtHi
      slots := (advanceSlots s c f).slots, v := (updateAddress s c f).v } := by
  dsimp only [drawing]
  generalize backgroundFetch g r s c p = f
  rw [composePixel_footprint]
  unfold shiftBackground advanceSlots updateAddress renderingEnabled
  dsimp only
  split_ifs <;> rfl

theorem drawing_only : OnlyDrawing p (drawing g r s c p) := by
  unfold OnlyDrawing
  rw [drawing_eq, backgroundFetch_footprint]

/-- Sprite evaluation reads nothing that actions 2 to 6 write. -/
theorem evaluateSprites_drawn (h : OnlyDrawing p q) : evaluateSprites s c q = { q with
    soam := (evaluateSprites s c p).soam, evN := (evaluateSprites s c p).evN, evM := (evaluateSprites s c p).evM
    evFound := (evaluateSprites s c p).evFound, evMode := (evaluateSprites s c p).evMode
    evLatch := (evaluateSprites s c p).evLatch, spr0Next := (evaluateSprites s c p).spr0Next
    sprOverflow := (evaluateSprites s c p).sprOverflow } := by
  unfold OnlyDrawing at h
  rw [h]
  unfold evaluateSprites evaluationCycle renderingEnabled
  dsimp only
  split_ifs
  · rfl
  · rfl
  · rfl
  · unfold evaluationRead
    split_ifs <;> rfl
  · unfold evaluationWrite
    dsimp only
    split
    · unfold evaluateScan spriteInRange spriteHeight
      dsimp only
      split_ifs <;> rfl
    · unfold evaluateCopy
      dsimp only
      split_ifs <;> rfl
    · unfold evaluateOverflow spriteInRange spriteHeight
      dsimp only
      split_ifs <;> rfl
    · rfl
  · rfl

/-- The sprite fetch does not read `v`. -/
theorem fetchSprites_updateAddress : fetchSprites g r s c (updateAddress s c p) =
    { updateAddress s c p with slots := (fetchSprites g r s c p).slots, spr0Cur := (fetchSprites g r s c p).spr0Cur } := by
  rw [updateAddress_footprint]
  unfold fetchSprites fetchSlot renderingEnabled
  dsimp only
  split_ifs
  · split <;> rfl
  · split <;> rfl
  · rfl

/-- On a cycle of the sprite fetch the address update is the only action at work before it. -/
theorem fetchSprites_drawn : fetchSprites g r s c (evaluateSprites s c (drawing g r s c p)) =
    { evaluateSprites s c (drawing g r s c p) with
      slots := (fetchSprites g r s c (advanceSlots s c p)).slots, spr0Cur := (fetchSprites g r s c p).spr0Cur } := by
  by_cases on : SpriteFetchCycle s c ∧ renderingEnabled p = true
  · obtain ⟨window, -⟩ := on
    have noFetch : ¬FetchCycle s c := by omega
    have noPixel : ¬PixelCycle s c := by omega
    rw [drawing, backgroundFetch_off noFetch, composePixel_off noPixel, shiftBackground_off noFetch,
      advanceSlots_off fun h => noPixel h.1, evaluateSprites_off fun h => noPixel h.1, fetchSprites_updateAddress]
  · have off {u : Ppu} (h : u.mask = p.mask) : fetchSprites g r s c u = u :=
      fetchSprites_off (by rwa [renderingEnabled, h])
    have mask : (evaluateSprites s c (drawing g r s c p)).mask = p.mask := by rw [evaluateSprites_footprint, drawing_only]
    have slots : (evaluateSprites s c (drawing g r s c p)).slots = (advanceSlots s c p).slots := by
      rw [evaluateSprites_footprint, drawing_eq, backgroundFetch_footprint]
      unfold advanceSlots renderingEnabled
      dsimp only
      split_ifs <;> rfl
    have cur : (evaluateSprites s c (drawing g r s c p)).spr0Cur = p.spr0Cur := by rw [evaluateSprites_footprint, drawing_only]
    rw [off mask, off rfl, off (by rw [advanceSlots_footprint]), ← slots, ← cur]

/-- Actions 2 to 10 of a cycle. -/
theorem actions_eq_cycleParts :
    advanceCounters (vblankEntry p.scanline p.cycle (fetchSprites g r p.scanline p.cycle
      (evaluateSprites p.scanline p.cycle (drawing g r p.scanline p.cycle p)))) = cycleParts g r p := by
  rw [fetchSprites_drawn, evaluateSprites_drawn drawing_only, drawing_eq]
  dsimp only [cycleParts]
  rw [backgroundFetch_footprint]
  unfold vblankEntry advanceCounters
  dsimp only
  split_ifs <;> rfl

/-- A cycle, part by part. On the pre-render clear's cycle the fetch, the shift and the counters alone run after the clear,
and they read nothing that it writes, so it can as well come last. -/
theorem ppuCycle_eq : ppuCycle g r p = preRenderClear p.scanline p.cycle (cycleParts g r p) := by
  rw [← actions_eq_cycleParts, drawing]
  by_cases clear : p.scanline = -1 ∧ p.cycle = 1
  · obtain ⟨line, first⟩ := clear
    have noPixel : ¬PixelCycle p.scanline p.cycle := by omega
    have noAddress : ¬(p.scanline ≤ 239 ∧ 256 ≤ p.cycle ∧ p.cycle ≤ 304) := by omega
    have noSprites : ¬SpriteFetchCycle p.scanline p.cycle := by omega
    have noVblank (u : Ppu) : vblankEntry p.scanline p.cycle u = u := if_neg (by omega)
    have nametable (u : Ppu) : backgroundFetch g r p.scanline p.cycle u = fetchNametable g r (reloadShifters u) := by
      rw [backgroundFetch_on (by omega), first]
      rfl
    simp only [ppuCycle, preRenderClear_on ⟨line, first⟩, nametable, composePixel_off noPixel,
      advanceSlots_off fun h => noPixel h.1, updateAddress_off noAddress, evaluateSprites_off fun h => noPixel h.1,
      fetchSprites_off fun h => noSprites h.1, noVblank]
    unfold shiftBackground advanceCounters fetchNametable reloadShifters
    dsimp only
    split_ifs <;> rfl
  · rw [ppuCycle, preRenderClear_off clear, preRenderClear_off clear]

theorem ppuCycle_of_noClear (noClear : ¬(p.scanline = -1 ∧ p.cycle = 1)) : ppuCycle g r p = cycleParts g r p := by
  rw [ppuCycle_eq, preRenderClear_off noClear]

end

/-- Settles O23: no action of a cycle writes the registers, OAM or the PPU's memory. -/
theorem ppuStepStaysInThePpu : Obligations.PpuStepStaysInThePpu := by
  intro s p q
  have parts : q = preRenderClear p.scanline p.cycle (cycleParts s.config s.chrRam p) := ppuCycle_eq
  rw [preRenderClear_footprint] at parts
  rw [parts]
  exact ⟨congrArg (fun u => { s with ppu := u }) parts, rfl, rfl, rfl, rfl, rfl, rfl, rfl, rfl, rfl, rfl⟩

/-! ## The counters and the idle cycles (R291, R327) -/

theorem counters_advanceCounters (p : Ppu) :
    ((advanceCounters p).cycle, (advanceCounters p).scanline, (advanceCounters p).oddFrame) =
      if p.cycle < 340 then (p.cycle + 1, p.scanline, p.oddFrame)
      else if p.scanline < 260 then (0, p.scanline + 1, p.oddFrame)
      else (if p.oddFrame then 0 else 1, -1, !p.oddFrame) := by
  have sameLine : p.cycle + 1 ≤ 340 ↔ p.cycle < 340 := Nat.succ_le_iff
  have sameFrame : p.scanline + 1 ≤ 260 ↔ p.scanline < 260 := Int.add_one_le_iff
  simp only [advanceCounters, sameLine, sameFrame]
  split_ifs <;> rfl

theorem counters_ppuCycle (g : Config) (r : Memory 8) (p : Ppu) :
    ((ppuCycle g r p).cycle, (ppuCycle g r p).scanline, (ppuCycle g r p).oddFrame) =
      if p.cycle < 340 then (p.cycle + 1, p.scanline, p.oddFrame)
      else if p.scanline < 260 then (0, p.scanline + 1, p.oddFrame)
      else (if p.oddFrame then 0 else 1, -1, !p.oddFrame) := by
  rw [← counters_advanceCounters, ppuCycle_eq, preRenderClear_footprint]
  rfl

/-- On an idle cycle every window but the counters' is shut. -/
theorem ppuCycle_idle {g : Config} {r : Memory 8} {p : Ppu} (idle : IdleCycle p.scanline p.cycle) :
    ppuCycle g r p = advanceCounters p := by
  have noClear : ¬(p.scanline = -1 ∧ p.cycle = 1) := by omega
  have noFetch : ¬FetchCycle p.scanline p.cycle := by omega
  have noPixel : ¬PixelCycle p.scanline p.cycle := by omega
  have noAddress : ¬(p.scanline ≤ 239 ∧ 256 ≤ p.cycle ∧ p.cycle ≤ 304) := by omega
  have noSprites : ¬SpriteFetchCycle p.scanline p.cycle := by omega
  have noVblank (u : Ppu) : vblankEntry p.scanline p.cycle u = u := if_neg (by omega)
  rw [ppuCycle, preRenderClear_off noClear, backgroundFetch_off noFetch, composePixel_off noPixel, shiftBackground_off noFetch,
    advanceSlots_off fun h => noPixel h.1, updateAddress_off noAddress, evaluateSprites_off fun h => noPixel h.1,
    fetchSprites_off fun h => noSprites h.1, noVblank]

/-- Settles O24: the counters are the last action's, and on an idle cycle that is the only one at work. -/
theorem countersAndIdleCycles : Obligations.CountersAndIdleCycles := by
  refine fun s => ⟨counters_ppuCycle _ _ _, fun idle => ?_⟩
  have counted : stepPpu s = { s with ppu := advanceCounters s.ppu } := by rw [stepPpu, ppuCycle_idle idle]
  rw [counted]
  exact congrArg (fun u => { s with ppu := u }) (advanceCounters_footprint s.ppu)

/-! ## Vblank entry and the pre-render clear (R293, R325) -/

/-- Settles O25: the two actions that write these flags are the clear and the vblank entry, each at its one cycle. -/
theorem vblankAndPreRenderFlags : Obligations.VblankAndPreRenderFlags := by
  intro s p q
  have parts : q = preRenderClear p.scanline p.cycle (cycleParts s.config s.chrRam p) := ppuCycle_eq
  refine ⟨fun clear => ?_, fun entry => ?_, fun noEntry => ?_, fun noEntry noClear => ?_⟩
  · have noPixel : ¬PixelCycle p.scanline p.cycle := by omega
    have noSprites : ¬SpriteFetchCycle p.scanline p.cycle := by omega
    rw [parts, preRenderClear_on clear]
    simp only [cycleParts, evaluateSprites_off fun h => noPixel h.1, advanceSlots_off fun h => noPixel h.1,
      fetchSprites_off fun h => noSprites h.1, and_self]
  · rw [parts, preRenderClear_off (by omega)]
    simp only [cycleParts, vblankEntry, if_pos entry, and_self]
  · rw [parts, preRenderClear_footprint]
    simp only [cycleParts, vblankEntry, if_neg noEntry]
  · rw [parts, preRenderClear_off noClear]
    simp only [cycleParts, vblankEntry, if_neg noEntry]

/-! ## The background fetches and the shift registers (R294 to R301) -/

section
variable {g : Config} {r : Memory 8} {s : Int} {c : Nat} {p : Ppu}

/-- A field above `n` low bits, as a sum. -/
theorem shiftLeft_or_eq_add {a b n : Nat} (h : b < 2 ^ n) : (a <<< n) ||| b = a * 2 ^ n + b := by
  rw [Nat.shiftLeft_eq, Nat.mul_comm]
  exact (Nat.two_pow_add_eq_or_of_lt h a).symm

theorem patternAddress_eq (p : Ppu) : patternAddress p =
    BitVec.ofNat 16 ((p.ctrl.getLsbD 4).toNat * 4096 + p.ntLatch.toNat * 16 + p.v.toNat / 4096 % 8) := by
  have fine : field p.v 12 3 = p.v.toNat / 4096 % 8 := field_eq p.v 12 3
  have row : p.v.toNat / 4096 % 8 < 2 ^ 4 := by omega
  have tile : p.ntLatch.toNat * 2 ^ 4 + p.v.toNat / 4096 % 8 < 2 ^ 12 := by
    have := p.ntLatch.isLt
    omega
  rw [patternAddress, fine, Nat.lor_assoc, shiftLeft_or_eq_add row, shiftLeft_or_eq_add tile, bitNat, Nat.add_assoc]
  rfl

/-- Each latch changes at its own sub-cycle alone (R296 to R299). -/
theorem fetchLatches_fetchPhase : fetchLatches (fetchPhase g r c p) =
    let k := (c - 1) % 8
    (if k = 0 then ppuRead g r p (0x2000#16 ||| (p.v &&& 0x0FFF#16)) else p.ntLatch,
      if k = 2 then (ppuRead g r p (attributeAddress p.v) >>> attributeShift p.v).setWidth 2 else p.atLatch,
      if k = 4 then ppuRead g r p (patternAddress p) else p.patLoLatch,
      if k = 6 then ppuRead g r p (patternAddress p ||| 8#16) else p.patHiLatch) := by
  unfold fetchPhase
  dsimp only
  split
  case h_5 h =>
    rw [h]
    split <;> rfl
  case h_6 h0 h2 h4 h6 _ =>
    rw [if_neg h0, if_neg h2, if_neg h4, if_neg h6]
    rfl
  all_goals
    rename_i h
    rw [h]
    rfl

/-- The registers are reloaded at sub-cycle 0 alone, from the latches before its nametable fetch (R295). -/
theorem shiftRegs_fetchPhase : shiftRegs (fetchPhase g r c p) =
    if (c - 1) % 8 = 0 then
      [word (hi p.bgPatLo) p.patLoLatch, word (hi p.bgPatHi) p.patHiLatch,
        word (hi p.bgAtLo) (if p.atLatch.getLsbD 0 then 0xFF#8 else 0x00#8),
        word (hi p.bgAtHi) (if p.atLatch.getLsbD 1 then 0xFF#8 else 0x00#8)]
    else shiftRegs p := by
  unfold fetchPhase
  split
  case h_1 h =>
    rw [if_pos h]
    simp only [shiftRegs, fetchNametable, reloadShifters, reloadLow, replaceLow_eq_word]
  case h_5 h =>
    rw [h]
    split <;> rfl
  case h_6 h0 _ _ _ _ => rw [if_neg h0]
  all_goals
    rename_i h
    rw [h]
    rfl

/-- `v` moves at sub-cycle 7 alone (R300). -/
theorem v_fetchPhase : (fetchPhase g r c p).v =
    if (c - 1) % 8 = 7 ∧ renderingEnabled p = true then incCoarseX p.v else p.v := by
  unfold fetchPhase
  split
  case h_5 h =>
    rw [h]
    split
    case isTrue on => rw [if_pos ⟨rfl, on⟩]
    case isFalse off => rw [if_neg fun h => off h.2]
  case h_6 h7 => rw [if_neg fun h => h7 h.1]
  all_goals
    rename_i h
    rw [h]
    rfl

theorem shiftRegs_shiftBackground (h : FetchCycle s c) : shiftRegs (shiftBackground s c p) =
    (shiftRegs p).map fun w : Word => if p.mask.getLsbD 3 then w <<< 1 else w := by
  rw [shiftBackground, inFetchWindow_iff.mpr h]
  cases p.mask.getLsbD 3 <;> rfl

end

/-- Settles O27: the latches are the fetch's, and the shift registers are shifted after the fetch has reloaded them. -/
theorem backgroundFetchAndShift : Obligations.BackgroundFetchAndShift := by
  intro s p q k read row low
  have parts : q = preRenderClear p.scanline p.cycle (cycleParts s.config s.chrRam p) := ppuCycle_eq
  rw [preRenderClear_footprint] at parts
  have latches : fetchLatches q = fetchLatches (backgroundFetch s.config s.chrRam p.scanline p.cycle p) := by
    rw [parts]
    rfl
  have shifts : shiftRegs q =
      shiftRegs (shiftBackground p.scanline p.cycle (backgroundFetch s.config s.chrRam p.scanline p.cycle p)) := by
    rw [parts]
    rfl
  rw [latches, shifts]
  refine ⟨fun window => ?_, fun outside => ?_⟩
  · have mask : (fetchPhase s.config s.chrRam p.cycle p).mask = p.mask := by rw [fetchPhase_footprint]
    rw [backgroundFetch_on window, fetchLatches_fetchPhase, shiftRegs_shiftBackground window, mask, shiftRegs_fetchPhase,
      patternAddress_eq]
    exact ⟨rfl, rfl⟩
  · rw [backgroundFetch_off outside, shiftBackground_off outside]
    exact ⟨rfl, rfl⟩

/-! ## The VRAM address (R300, R302 to R304) -/

section
variable {g : Config} {r : Memory 8} {s : Int} {c : Nat} {p : Ppu}

theorem v_backgroundFetch : (backgroundFetch g r s c p).v =
    if FetchCycle s c ∧ (c - 1) % 8 = 7 ∧ renderingEnabled p = true then incCoarseX p.v else p.v := by
  by_cases window : FetchCycle s c
  · rw [backgroundFetch_on window, v_fetchPhase]
    exact if_congr (and_iff_right window).symm rfl rfl
  · rw [backgroundFetch_off window, if_neg fun h => window h.1]

theorem v_updateAddress : (updateAddress s c p).v =
    if s ≤ 239 ∧ renderingEnabled p = true then
      if c = 256 then incY p.v
      else if c = 257 then copyHorizontal p.t p.v
      else if s = -1 ∧ 280 ≤ c ∧ c ≤ 304 then copyVertical p.t p.v
      else p.v
    else p.v := by
  simp only [updateAddress, Bool.and_eq_true, decide_eq_true_eq]
  split_ifs <;> rfl

/-- The two actions that move `v`, the fetch's step of coarse X before the address update. -/
theorem v_ppuCycle (g : Config) (r : Memory 8) (p : Ppu) :
    (ppuCycle g r p).v = (updateAddress p.scanline p.cycle (backgroundFetch g r p.scanline p.cycle p)).v := by
  rw [ppuCycle_eq, preRenderClear_footprint]
  rfl

end

/-- Settles O28: each movement of `v` is known on its fields. -/
theorem vramAddressStepping : Obligations.VramAddressStepping := by
  intro s p q rendering f0 tf f1
  have v : q.v = (updateAddress p.scanline p.cycle (backgroundFetch s.config s.chrRam p.scanline p.cycle p)).v :=
    v_ppuCycle _ _ _
  have fetched : vramFields (backgroundFetch s.config s.chrRam p.scanline p.cycle p).v = f1 := by
    rw [v_backgroundFetch, apply_ite vramFields, vramFields_incCoarseX]
    rfl
  have enabled : renderingEnabled (backgroundFetch s.config s.chrRam p.scanline p.cycle p) = rendering := by
    rw [backgroundFetch_footprint]
    rfl
  have t : (backgroundFetch s.config s.chrRam p.scanline p.cycle p).t = p.t := by rw [backgroundFetch_footprint]
  rw [v, v_updateAddress, enabled, t]
  simp only [apply_ite vramFields, vramFields_incY, vramFields_copyHorizontal, vramFields_copyVertical, fetched, tf]

/-! ## Sprite evaluation (R305 to R311) -/

section
variable {s : Int} {c : Nat} {p : Ppu}

theorem evaluationCycle_clear (early : c ≤ 64) : evaluationCycle s c p =
    { p with soam := if c % 2 = 0 then p.soam.write (c / 2 - 1) 0xFF#8 else p.soam } := by
  rw [evaluationCycle, if_pos early]
  split <;> rfl

/-- The byte an odd cycle reads: OAM has no more than 64 times four bytes, so the address needs no wrap. -/
theorem evaluationRead_active (active : p.evMode ≠ .done) :
    evaluationRead p = { p with evLatch := p.oam.read (4 * p.evN.toNat + p.evM.toNat) } := by
  have := p.evN.isLt
  have := p.evM.isLt
  rw [evaluationRead, if_neg active, Nat.mod_eq_of_lt (by omega)]

theorem evaluationCycle_start : evaluationCycle s 65 p = { startEvaluation p with evLatch := p.oam.read 0 } :=
  evaluationRead_active (p := startEvaluation p) (show EvalMode.scan ≠ .done by decide)

theorem evaluationCycle_odd (late : 65 < c) (odd : c % 2 = 1) : evaluationCycle s c p = evaluationRead p := by
  rw [evaluationCycle, if_neg (by omega), if_neg (by omega), if_pos odd]

theorem evaluationCycle_even (late : 65 < c) (even : c % 2 = 0) : evaluationCycle s c p = evaluationWrite s p := by
  rw [evaluationCycle, if_neg (by omega), if_neg (by omega), if_neg (by omega)]

theorem evaluationCycle_done (late : 65 < c) (done : p.evMode = .done) : evaluationCycle s c p = p := by
  obtain even | odd := Nat.mod_two_eq_zero_or_one c
  · rw [evaluationCycle_even late even, evaluationWrite, done]
  · rw [evaluationCycle_odd late odd, evaluationRead, if_pos done]

theorem spriteInRange_iff {y : Byte} : spriteInRange s p y = true ↔ InRange s (p.ctrl.getLsbD 5) y := by
  simp only [spriteInRange, spriteHeight, Bool.and_eq_true, decide_eq_true_eq, Nat.cast_ite, Nat.cast_ofNat]

/-- Of the modes the overflow scan alone writes the overflow flag (R310). -/
theorem sprOverflow_evaluationWrite (h : p.evMode ≠ .ovfScan) : (evaluationWrite s p).sprOverflow = p.sprOverflow := by
  unfold evaluationWrite
  split
  case h_1 =>
    dsimp only [evaluateScan]
    split <;> rfl
  case h_2 =>
    dsimp only [evaluateCopy]
    split <;> rfl
  case h_3 scan => exact absurd scan h
  case h_4 => rfl

theorem sprOverflow_evaluateSprites
    (h : ¬(PixelCycle s c ∧ renderingEnabled p = true ∧ 66 ≤ c ∧ c % 2 = 0 ∧ p.evMode = .ovfScan)) :
    (evaluateSprites s c p).sprOverflow = p.sprOverflow := by
  by_cases on : PixelCycle s c ∧ renderingEnabled p = true
  · obtain ⟨window, rendering⟩ := on
    rw [evaluateSprites_on window rendering]
    obtain early | rfl | late : c ≤ 64 ∨ c = 65 ∨ 66 ≤ c := by omega
    · rw [evaluationCycle_clear early]
    · rw [evaluationCycle_start]
      rfl
    · obtain even | odd := Nat.mod_two_eq_zero_or_one c
      · rw [evaluationCycle_even late even]
        exact sprOverflow_evaluationWrite fun mode => h ⟨window, rendering, late, even, mode⟩
      · rw [evaluationCycle_odd late odd, evaluationRead_footprint]
  · rw [evaluateSprites_off on]

/-- The evaluation of a cycle is action 7 on the state the cycle starts from. -/
theorem evaluation_ppuCycle (g : Config) (r : Memory 8) (p : Ppu) :
    (ppuCycle g r p).soam = (evaluateSprites p.scanline p.cycle p).soam ∧
      evalRegs (ppuCycle g r p) = evalRegs (evaluateSprites p.scanline p.cycle p) := by
  rw [ppuCycle_eq, preRenderClear_footprint]
  exact ⟨rfl, rfl⟩

theorem sprOverflow_ppuCycle (g : Config) (r : Memory 8) (noClear : ¬(p.scanline = -1 ∧ p.cycle = 1)) :
    (ppuCycle g r p).sprOverflow = (evaluateSprites p.scanline p.cycle p).sprOverflow := by
  rw [ppuCycle_of_noClear noClear]
  rfl

end

/-- Settles O29: the cycles 1 to 64, 65, the odd ones after it, and those of a done evaluation, each by its own rule. -/
theorem evaluationClearAndReads : Obligations.EvaluationClearAndReads := by
  intro s p q c rendering
  have evaluated : q.soam = (evaluateSprites p.scanline c p).soam ∧ evalRegs q = evalRegs (evaluateSprites p.scanline c p) :=
    evaluation_ppuCycle _ _ _
  have overflow (noClear : ¬(p.scanline = -1 ∧ c = 1)) : q.sprOverflow = (evaluateSprites p.scanline c p).sprOverflow :=
    sprOverflow_ppuCycle _ _ noClear
  rw [evaluated.1, evaluated.2]
  refine ⟨fun window on => ?_, fun off => ?_, fun noClear noScan => ?_⟩
  · rw [evaluateSprites_on window on]
    refine ⟨fun early => ?_, fun start => ?_, fun late odd active => ?_, fun late done => ?_⟩
    · rw [evaluationCycle_clear early]
      exact ⟨rfl, rfl⟩
    · rw [start, evaluationCycle_start]
      exact ⟨rfl, rfl⟩
    · rw [evaluationCycle_odd late odd, evaluationRead_active active]
      exact ⟨rfl, rfl⟩
    · rw [overflow (by omega), evaluateSprites_on window on, evaluationCycle_done late done]
      exact ⟨rfl, rfl, rfl⟩
  · rw [evaluateSprites_off off]
    exact ⟨rfl, rfl⟩
  · rw [overflow noClear]
    exact sprOverflow_evaluateSprites noScan

/-- Settles O30: one mode after the other, in range or not. -/
theorem evaluationModes : Obligations.EvaluationModes := by
  intro s p q e n window late even on
  have evaluated : q.soam = (evaluateSprites p.scanline p.cycle p).soam ∧
      evalRegs q = evalRegs (evaluateSprites p.scanline p.cycle p) := evaluation_ppuCycle _ _ _
  have noClear : ¬(p.scanline = -1 ∧ p.cycle = 1) := by omega
  have overflow : q.sprOverflow = (evaluateSprites p.scanline p.cycle p).sprOverflow := sprOverflow_ppuCycle _ _ noClear
  rw [evaluated.1, evaluated.2, overflow, evaluateSprites_on window on, evaluationCycle_even late even, evaluationWrite]
  refine ⟨fun mode => ?_, fun mode => ?_, fun mode => ?_⟩
  · rw [mode]
    simp only [evaluateScan, spriteInRange_iff]
    split <;> exact ⟨rfl, rfl, rfl⟩
  · rw [mode]
    dsimp only [evaluateCopy]
    split <;> exact ⟨rfl, rfl, rfl⟩
  · rw [mode]
    simp only [evaluateOverflow, spriteInRange_iff]
    split <;> exact ⟨rfl, rfl, rfl⟩

/-! ## The sprite fetch and the slots (R313 to R316) -/

section
variable {s : Int} {p : Ppu}

theorem advanceSlot_eq (sl : SpriteSlot) : advanceSlot sl =
    if 0 < sl.x.toNat then { sl with x := sl.x - 1#8 } else { sl with lo := sl.lo <<< 1, hi := sl.hi <<< 1 } := by
  have runDown : sl.x = 0#8 ↔ ¬0 < sl.x.toNat := by bv_omega
  rw [advanceSlot, if_congr runDown rfl rfl, ite_not]

theorem spriteRow_eq {y attr : Byte} : spriteRow s p y attr =
    if attr.getLsbD 7 then (if p.ctrl.getLsbD 5 then 16 else 8) - 1 - (s - (y.toNat : Int)) else s - (y.toNat : Int) := by
  simp only [spriteRow, spriteHeight, Nat.cast_ite, Nat.cast_ofNat]

/-- The rule's address of a row that is not negative. -/
theorem spriteAddress_eq {y tile attr : Byte} {row : Nat} (h : spriteRow s p y attr = row) :
    spriteAddress s p y tile attr = BitVec.ofNat 16 (
      if p.ctrl.getLsbD 5 then
        ((tile &&& 1#8).toNat <<< 12) ||| (((tile &&& 0xFE#8).toNat + (row >>> 3)) <<< 4) ||| (row &&& 7)
      else ((p.ctrl.getLsbD 3).toNat <<< 12) ||| (tile.toNat <<< 4) ||| row) := by
  have bank : (tile &&& 1#8).toNat = tile.toNat % 2 := Nat.and_two_pow_sub_one_eq_mod tile.toNat 1
  have line : row &&& 7 = row % 8 := Nat.and_two_pow_sub_one_eq_mod row 3
  rw [spriteAddress, h, bank, line]
  exact if_pos (Int.natCast_nonneg row)

theorem slots_ppuCycle (g : Config) (r : Memory 8) (noClear : ¬(p.scanline = -1 ∧ p.cycle = 1)) :
    (ppuCycle g r p).slots = (fetchSprites g r p.scanline p.cycle (advanceSlots p.scanline p.cycle p)).slots := by
  rw [ppuCycle_of_noClear noClear]
  rfl

theorem spr0Cur_ppuCycle (g : Config) (r : Memory 8) (p : Ppu) :
    (ppuCycle g r p).spr0Cur = (fetchSprites g r p.scanline p.cycle p).spr0Cur := by
  rw [ppuCycle_eq, preRenderClear_footprint]
  rfl

end

/-- Settles O31: the windows of the fetch and of the advance do not overlap, so one of them alone moves the slots. -/
theorem spriteFetchAndAdvance : Obligations.SpriteFetchAndAdvance := by
  intro s p q rendering fetching i j y tile attr height row address pattern
  have cur : q.spr0Cur = (fetchSprites s.config s.chrRam p.scanline p.cycle p).spr0Cur := spr0Cur_ppuCycle _ _ _
  have slots (noClear : ¬(p.scanline = -1 ∧ p.cycle = 1)) :
      q.slots = (fetchSprites s.config s.chrRam p.scanline p.cycle (advanceSlots p.scanline p.cycle p)).slots :=
    slots_ppuCycle _ _ noClear
  have shut (notFetching : ¬fetching) : ¬(SpriteFetchCycle p.scanline p.cycle ∧ renderingEnabled p = true) := by
    rintro ⟨⟨low, high, first, last⟩, on⟩
    exact notFetching ⟨low, high, first, last, on⟩
  refine ⟨?served, fun window on => ?_, fun notFetching notPixel noClear => ?_, fun notFetching => ?_⟩
  case served =>
    rintro ⟨low, high, first, last, on⟩
    have window : SpriteFetchCycle p.scanline p.cycle := ⟨low, high, first, last⟩
    have noPixel : ¬PixelCycle p.scanline p.cycle := by omega
    have served : q.slots = (fetchSlot s.config s.chrRam p.scanline i j
        { p with spr0Cur := if p.cycle = 257 then p.spr0Next else p.spr0Cur }).slots := by
      rw [slots (by omega), advanceSlots_off fun h => noPixel h.1, fetchSprites_on window on]
    have inUse (a : Word) (hi : i < p.evFound) : slotPattern s.config s.chrRam p i a = pattern a := if_pos hi
    have unused (a : Word) (hi : ¬i < p.evFound) : slotPattern s.config s.chrRam p i a = 0#8 := if_neg hi
    have inside (h : 0 ≤ row) : slotAddress p.scanline p i = address :=
      spriteAddress_eq (spriteRow_eq.trans (Int.toNat_of_nonneg h).symm)
    refine ⟨?_, fun hj => ?_, fun hj hi h => ?_, fun hj hi h => ?_, fun hj _ _ => ?_, fun hj _ _ => ?_, fun hj hi => ?_,
      fun hj hi => ?_, fun hj => ?_⟩
    · rw [cur, fetchSprites_on window on, fetchSlot_footprint]
    · rw [served, hj]
      rfl
    · rw [served, hj, ← inside h, ← inUse _ hi]
      rfl
    · rw [served, hj, ← inside h, ← inUse _ hi]
      rfl
    · rw [served, hj]
      exact ⟨_, rfl⟩
    · rw [served, hj]
      exact ⟨_, rfl⟩
    · rw [served, hj, ← unused (slotAddress p.scanline p i) hi]
      rfl
    · rw [served, hj, ← unused (slotAddress p.scanline p i ||| 8#16) hi]
      rfl
    · have idle : j = 1 ∨ j = 2 ∨ j = 3 ∨ j = 5 ∨ j = 7 := by simpa using hj
      rw [served]
      obtain e | e | e | e | e := idle <;> rw [e] <;> rfl
  · rw [slots (by omega), advanceSlots_on window on, fetchSprites_off (by omega)]
    exact congrArg (List.map · p.slots) (funext advanceSlot_eq)
  · rw [slots noClear, advanceSlots_off notPixel, fetchSprites_off (shut notFetching)]
  · rw [cur, fetchSprites_off (shut notFetching)]

/-! ## The layers of a pixel (R317 to R319) -/

/-- A slot shows a visible pixel: its counter has run down, and one of its two pattern bits is set. -/
abbrev ShowsPixel (sl : SpriteSlot) : Prop := sl.x = 0#8 ∧ (sl.hi.getLsbD 7 = true ∨ sl.lo.getLsbD 7 = true)

/-- No sprite pixel. -/
def noSprite : SpritePixel := { pix := 0, pal := 0, front := false, isSprite0 := false }

theorem slotPixel_shown {sl : SpriteSlot} (h : ShowsPixel sl) :
    slotPixel sl = 2 * (sl.hi.getLsbD 7).toNat + (sl.lo.getLsbD 7).toNat := if_pos h.1

theorem slotPixel_eq_zero {sl : SpriteSlot} : slotPixel sl = 0 ↔ ¬ShowsPixel sl := by
  unfold slotPixel twoBits ShowsPixel
  cases sl.hi.getLsbD 7 <;> cases sl.lo.getLsbD 7 <;> simp

/-- The search finds slot `i` when that is the first to show a pixel; it counts the slots from `k`. -/
theorem firstOpaque_found {cur : Bool} {sl : SpriteSlot} {slots : List SpriteSlot} {i : Nat} (k : Nat)
    (here : slots[i]? = some sl) (shows : ShowsPixel sl)
    (before : ∀ j < i, ∀ other, slots[j]? = some other → ¬ShowsPixel other) :
    firstOpaque cur k slots =
      { pix := 2 * (sl.hi.getLsbD 7).toNat + (sl.lo.getLsbD 7).toNat, pal := sl.attr.toNat % 4 + 4
        front := !sl.attr.getLsbD 5, isSprite0 := decide (k + i = 0) && cur } := by
  induction slots generalizing i k with
  | nil => cases here
  | cons first rest ih =>
    cases i with
    | zero =>
      cases here
      rw [firstOpaque, if_neg fun h => slotPixel_eq_zero.mp h shows, slotPixel_shown shows]
      rfl
    | succ i =>
      have later : k + 1 + i = k + (i + 1) := by omega
      rw [firstOpaque, if_pos (slotPixel_eq_zero.mpr (before 0 (by omega) first rfl)),
        ih (k + 1) here fun j hj => before (j + 1) (by omega), later]

theorem firstOpaque_none {cur : Bool} {slots : List SpriteSlot} (k : Nat) (h : ∀ sl ∈ slots, ¬ShowsPixel sl) :
    firstOpaque cur k slots = noSprite := by
  induction slots generalizing k with
  | nil => rfl
  | cons first rest ih =>
    obtain ⟨hidden, others⟩ := List.forall_mem_cons.mp h
    rw [firstOpaque, if_pos (slotPixel_eq_zero.mpr hidden), ih (k + 1) others]

/-- A layer is shown at column `x`: it is on, and not clipped there. -/
theorem layerShown_iff {on unclipped : Bool} {x : Nat} :
    (on && (decide (8 ≤ x) || unclipped)) = true ↔ on = true ∧ (8 ≤ x ∨ unclipped = true) := by
  rw [Bool.and_eq_true, Bool.or_eq_true, decide_eq_true_eq]

section
variable {p : Ppu} {x : Nat}

theorem backgroundPixel_shown (h : p.mask.getLsbD 3 = true ∧ (8 ≤ x ∨ p.mask.getLsbD 1 = true)) : backgroundPixel p x =
    { pix := 2 * (p.bgPatHi.getLsbD (15 - p.fineX.toNat)).toNat + (p.bgPatLo.getLsbD (15 - p.fineX.toNat)).toNat
      pal := 2 * (p.bgAtHi.getLsbD (15 - p.fineX.toNat)).toNat + (p.bgAtLo.getLsbD (15 - p.fineX.toNat)).toNat } :=
  if_pos (layerShown_iff.mpr h)

theorem backgroundPixel_hidden (h : ¬(p.mask.getLsbD 3 = true ∧ (8 ≤ x ∨ p.mask.getLsbD 1 = true))) :
    backgroundPixel p x = { pix := 0, pal := 0 } := if_neg (mt layerShown_iff.mp h)

theorem spritePixel_shown (h : p.mask.getLsbD 4 = true ∧ (8 ≤ x ∨ p.mask.getLsbD 2 = true)) :
    spritePixel p x = firstOpaque p.spr0Cur 0 p.slots := if_pos (layerShown_iff.mpr h)

theorem spritePixel_hidden (h : ¬(p.mask.getLsbD 4 = true ∧ (8 ≤ x ∨ p.mask.getLsbD 2 = true))) :
    spritePixel p x = noSprite := if_neg (mt layerShown_iff.mp h)

end

theorem selectPixel_eq (bg : LayerPixel) (spr : SpritePixel) : selectPixel bg spr =
    if bg.pix = 0 ∧ spr.pix = 0 then { pix := 0, pal := 0 }
    else if bg.pix = 0 then { pix := spr.pix, pal := spr.pal }
    else if spr.pix = 0 then bg
    else if spr.front then { pix := spr.pix, pal := spr.pal } else bg := by
  unfold selectPixel
  by_cases transparent : bg.pix = 0
  · simp only [transparent, true_and, if_true]
  · simp only [transparent, false_and, if_false]

/-! ## The colour of a pixel (R321) -/

theorem twoBits_lt (h l : Bool) : twoBits h l < 4 := by cases h <;> cases l <;> decide

theorem backgroundPixel_lt (p : Ppu) (x : Nat) : (backgroundPixel p x).pix < 4 ∧ (backgroundPixel p x).pal < 8 := by
  by_cases shown : p.mask.getLsbD 3 = true ∧ (8 ≤ x ∨ p.mask.getLsbD 1 = true)
  · rw [backgroundPixel_shown shown]
    exact ⟨twoBits_lt _ _, (twoBits_lt _ _).trans (by decide)⟩
  · rw [backgroundPixel_hidden shown]
    decide

theorem firstOpaque_lt (cur : Bool) (k : Nat) (slots : List SpriteSlot) :
    (firstOpaque cur k slots).pix < 4 ∧ (firstOpaque cur k slots).pal < 8 := by
  induction slots generalizing k with
  | nil => exact ⟨Nat.zero_lt_succ 3, Nat.zero_lt_succ 7⟩
  | cons sl rest ih =>
    rw [firstOpaque]
    split
    case isTrue => exact ih (k + 1)
    case isFalse found =>
      have palette : sl.attr.toNat % 4 + 4 < 8 := by omega
      have value := twoBits_lt (sl.hi.getLsbD 7) (sl.lo.getLsbD 7)
      exact ⟨(slotPixel_shown (not_not.mp (mt slotPixel_eq_zero.mpr found))).trans_lt value, palette⟩

theorem spritePixel_lt (p : Ppu) (x : Nat) : (spritePixel p x).pix < 4 ∧ (spritePixel p x).pal < 8 := by
  by_cases shown : p.mask.getLsbD 4 = true ∧ (8 ≤ x ∨ p.mask.getLsbD 2 = true)
  · rw [spritePixel_shown shown]
    exact firstOpaque_lt _ _ _
  · rw [spritePixel_hidden shown]
    decide

/-- What the multiplexer picks: an entry of one of the eight palettes, and entry 0 of the first palette alone. -/
def OnPalette (px : LayerPixel) : Prop := px.pal < 8 ∧ px.pix < 4 ∧ (px.pix = 0 → px.pal = 0)

theorem selectPixel_onPalette (p : Ppu) (x : Nat) : OnPalette (selectPixel (backgroundPixel p x) (spritePixel p x)) := by
  obtain ⟨bgPix, bgPal⟩ := backgroundPixel_lt p x
  obtain ⟨sprPix, sprPal⟩ := spritePixel_lt p x
  unfold selectPixel OnPalette
  split_ifs with noBg noSpr noSpr front
  · decide
  · exact ⟨sprPal, sprPix, fun h => absurd h noSpr⟩
  · exact ⟨bgPal, bgPix, fun h => absurd h noBg⟩
  · exact ⟨sprPal, sprPix, fun h => absurd h noSpr⟩
  · exact ⟨bgPal, bgPix, fun h => absurd h noBg⟩

/-- The address lies in the palette, and on such an entry not at a mirror of another. -/
theorem paletteAddress_onPalette {px : LayerPixel} (h : OnPalette px) :
    let a := paletteAddress px &&& 0x3FFF#16
    ¬a.toNat ≤ 0x1FFF ∧ ¬a.toNat ≤ 0x3EFF ∧ paletteIndex a = 4 * px.pal + px.pix := by
  have entries : ∀ pal < 8, ∀ pix < 4, (pix = 0 → pal = 0) →
      let a := paletteAddress { pix := pix, pal := pal } &&& 0x3FFF#16
      ¬a.toNat ≤ 0x1FFF ∧ ¬a.toNat ≤ 0x3EFF ∧ paletteIndex a = 4 * pal + pix := by decide
  obtain ⟨palette, value, backdrop⟩ := h
  exact entries px.pal palette px.pix value backdrop

theorem ppuRead_paletteAddress (g : Config) (r : Memory 8) (p : Ppu) {px : LayerPixel} (h : OnPalette px) :
    ppuRead g r p (paletteAddress px) = p.pal.read (4 * px.pal + px.pix) &&& paletteMask p := by
  obtain ⟨noPattern, noTable, index⟩ := paletteAddress_onPalette h
  rw [ppuRead, if_neg noPattern, if_neg noTable, index]

theorem and_paletteMask_lt (p : Ppu) (b : Byte) : (b &&& paletteMask p).toNat < 64 := by
  have mask : (paletteMask p).toNat < 64 := by
    unfold paletteMask
    split <;> decide
  rw [BitVec.toNat_and]
  exact Nat.and_le_right.trans_lt mask

/-! ## What a cycle outputs (R320 to R322) -/

section
variable (g : Config) (r : Memory 8) {p : Ppu}

/-- Of what the composition reads and writes, the fetch before it changes the shift registers alone. -/
theorem backgroundFetch_keeps (s : Int) (c : Nat) (p : Ppu) :
    let f := backgroundFetch g r s c p
    f.mask = p.mask ∧ f.pal = p.pal ∧ f.spr0Hit = p.spr0Hit ∧ f.framebuffer = p.framebuffer ∧
      f.frameComplete = p.frameComplete := by
  rw [backgroundFetch_footprint]
  exact ⟨rfl, rfl, rfl, rfl, rfl⟩

theorem framebuffer_ppuCycle (p : Ppu) : (ppuCycle g r p).framebuffer =
    (composePixel g r p.scanline p.cycle (backgroundFetch g r p.scanline p.cycle p)).framebuffer := by
  rw [ppuCycle_eq, preRenderClear_footprint]
  rfl

theorem framebuffer_pixel (window : PixelCycle p.scanline p.cycle) :
    let f := backgroundFetch g r p.scanline p.cycle p
    let px := selectPixel (backgroundPixel f (p.cycle - 1)) (spritePixel f (p.cycle - 1))
    (ppuCycle g r p).framebuffer = p.framebuffer.write (256 * p.scanline.toNat + (p.cycle - 1))
      (g.colorLut.read (p.pal.read (4 * px.pal + px.pix) &&& paletteMask p).toNat) := by
  intro f px
  obtain ⟨mask, pal, -, framebuffer, -⟩ := backgroundFetch_keeps g r p.scanline p.cycle p
  have entry : ppuRead g r f (paletteAddress px) = p.pal.read (4 * px.pal + px.pix) &&& paletteMask p := by
    rw [ppuRead_paletteAddress _ _ _ (selectPixel_onPalette f _), pal, paletteMask, mask, paletteMask]
  rw [framebuffer_ppuCycle, composePixel_on window, ← entry, ← framebuffer, Nat.mul_comm]
  rfl

theorem framebuffer_noPixel (noPixel : ¬PixelCycle p.scanline p.cycle) : (ppuCycle g r p).framebuffer = p.framebuffer := by
  obtain ⟨-, -, -, framebuffer, -⟩ := backgroundFetch_keeps g r p.scanline p.cycle p
  rw [framebuffer_ppuCycle, composePixel_off noPixel, framebuffer]

theorem spr0Hit_ppuCycle (noClear : ¬(p.scanline = -1 ∧ p.cycle = 1)) : (ppuCycle g r p).spr0Hit =
    (composePixel g r p.scanline p.cycle (backgroundFetch g r p.scanline p.cycle p)).spr0Hit := by
  rw [ppuCycle_of_noClear noClear]
  rfl

theorem spr0Hit_pixel (window : PixelCycle p.scanline p.cycle) :
    let f := backgroundFetch g r p.scanline p.cycle p
    (ppuCycle g r p).spr0Hit =
      (p.spr0Hit || sprite0Hits f (backgroundPixel f (p.cycle - 1)) (spritePixel f (p.cycle - 1))) := by
  intro f
  obtain ⟨-, -, hit, -⟩ := backgroundFetch_keeps g r p.scanline p.cycle p
  rw [spr0Hit_ppuCycle _ _ (by omega), composePixel_on window, ← hit]
  rfl

theorem spr0Hit_noPixel (noPixel : ¬PixelCycle p.scanline p.cycle) (noClear : ¬(p.scanline = -1 ∧ p.cycle = 1)) :
    (ppuCycle g r p).spr0Hit = p.spr0Hit := by
  obtain ⟨-, -, hit, -⟩ := backgroundFetch_keeps g r p.scanline p.cycle p
  rw [spr0Hit_ppuCycle _ _ noClear, composePixel_off noPixel, hit]

theorem frameComplete_ppuCycle (noClear : ¬(p.scanline = -1 ∧ p.cycle = 1)) : (ppuCycle g r p).frameComplete =
    (composePixel g r p.scanline p.cycle (backgroundFetch g r p.scanline p.cycle p)).frameComplete := by
  rw [ppuCycle_of_noClear noClear]
  rfl

end

theorem sprite0Hits_iff {p : Ppu} {bg : LayerPixel} {spr : SpritePixel} : sprite0Hits p bg spr = true ↔
    bg.pix ≠ 0 ∧ spr.pix ≠ 0 ∧ spr.isSprite0 = true ∧ p.mask.getLsbD 3 = true ∧ p.mask.getLsbD 4 = true := by
  simp only [sprite0Hits, Bool.and_eq_true, decide_eq_true_eq, and_assoc]

/-- A clipped layer is hidden in columns 0 to 7. -/
theorem not_layerShown_of_clipped {x : Nat} {on unclipped : Bool} (left : x < 8) (clipped : unclipped = false) :
    ¬(on = true ∧ (8 ≤ x ∨ unclipped = true)) := by
  rintro ⟨-, right | shown⟩
  · omega
  · exact absurd shown (Bool.eq_false_iff.mp clipped)

theorem sprite0Hits_clipped {p : Ppu} {x : Nat} (left : x < 8) (clipped : p.mask.getLsbD 1 = false ∨ p.mask.getLsbD 2 = false) :
    sprite0Hits p (backgroundPixel p x) (spritePixel p x) = false := by
  refine Bool.eq_false_iff.mpr fun hit => ?_
  obtain ⟨background, sprite, -⟩ := sprite0Hits_iff.mp hit
  obtain clipped | clipped := clipped
  · exact background (by rw [backgroundPixel_hidden (not_layerShown_of_clipped left clipped)])
  · exact sprite (by rw [spritePixel_hidden (not_layerShown_of_clipped left clipped)]; rfl)

/-- Settles O32: each layer is shown or hidden, and a cycle sets the flag by composing a pixel alone. -/
theorem pixelLayersAndSprite0Hit : Obligations.PixelLayersAndSprite0Hit := by
  refine ⟨?layers, selectPixel_eq, ?hit⟩
  case layers =>
    intro p x b opaque8 spritesShown nothing
    refine ⟨backgroundPixel_shown, backgroundPixel_hidden, fun shown i sl here shows before => ?_, fun shown none => ?_,
      spritePixel_hidden⟩
    · rw [spritePixel_shown shown, firstOpaque_found 0 here shows before, Nat.zero_add]
    · rw [spritePixel_shown shown]
      exact firstOpaque_none 0 none
  case hit =>
    intro s p q x f
    have pixel (window : PixelCycle p.scanline p.cycle) :
        q.spr0Hit = (p.spr0Hit || sprite0Hits f (backgroundPixel f x) (spritePixel f x)) := spr0Hit_pixel _ _ window
    obtain ⟨mask, -⟩ := backgroundFetch_keeps s.config s.chrRam p.scanline p.cycle p
    refine ⟨fun window => ?_, fun window left clipped => ?_, spr0Hit_noPixel _ _⟩
    · rw [pixel window, Bool.or_eq_true, sprite0Hits_iff, ← mask]
    · rw [pixel window, sprite0Hits_clipped left (by rwa [mask]), Bool.or_false]

/-- Settles O33: one write of the pixel buffer, and the frame-complete flag with the last pixel. -/
theorem colourOutputAndFrameCompletion : Obligations.ColourOutputAndFrameCompletion := by
  intro s p q f px idx
  obtain ⟨-, -, -, -, complete⟩ := backgroundFetch_keeps s.config s.chrRam p.scanline p.cycle p
  refine ⟨fun window => ⟨and_paletteMask_lt p _, framebuffer_pixel _ _ window⟩, framebuffer_noPixel _ _, fun noClear => ?_,
    fun clear => ?_⟩
  · refine (frameComplete_ppuCycle _ _ noClear).trans ?_
    rw [← complete]
    by_cases window : PixelCycle p.scanline p.cycle
    · have column : p.cycle - 1 = 255 ↔ p.cycle = 256 := by omega
      rw [composePixel_on window, Bool.and_comm, ← decide_eq_decide.mpr column]
      rfl
    · have notLast : ¬(p.scanline = 239 ∧ p.cycle = 256) := by omega
      rw [composePixel_off window, ← Bool.decide_and, decide_eq_false notLast, Bool.or_false]
  · have parts : q = preRenderClear p.scanline p.cycle (cycleParts s.config s.chrRam p) := ppuCycle_eq
    rw [parts, preRenderClear_on clear]

/-! ## Rendering disabled (R329) -/

/-- With both layers off the multiplexer picks the backdrop. -/
theorem selectPixel_off {p : Ppu} (noBackground : p.mask.getLsbD 3 = false) (noSprites : p.mask.getLsbD 4 = false) (x : Nat) :
    selectPixel (backgroundPixel p x) (spritePixel p x) = { pix := 0, pal := 0 } := by
  rw [backgroundPixel_hidden fun h => Bool.false_ne_true (noBackground.symm.trans h.1),
    spritePixel_hidden fun h => Bool.false_ne_true (noSprites.symm.trans h.1)]
  rfl

/-- Settles O26: with both layers off no action that waits for rendering is at work, and the layers show nothing. -/
theorem renderingDisabledCycle : Obligations.RenderingDisabledCycle := by
  intro s noBackground noSprites p q
  have off {u : Ppu} (mask : u.mask = p.mask) : ¬renderingEnabled u = true := by
    rw [renderingEnabled, mask, noBackground, noSprites]
    decide
  have noEvaluation : evaluateSprites p.scanline p.cycle p = p := evaluateSprites_off fun h => off rfl h.2
  have noSpriteFetch : fetchSprites s.config s.chrRam p.scanline p.cycle p = p := fetchSprites_off fun h => off rfl h.2
  have noAdvance : advanceSlots p.scanline p.cycle p = p := advanceSlots_off fun h => off rfl h.2
  obtain ⟨mask, -⟩ := backgroundFetch_keeps s.config s.chrRam p.scanline p.cycle p
  obtain ⟨soam, regs⟩ := evaluation_ppuCycle s.config s.chrRam p
  rw [noEvaluation] at soam regs
  refine ⟨(v_ppuCycle _ _ _).trans ?_, soam, regs, (spr0Cur_ppuCycle _ _ _).trans (by rw [noSpriteFetch]),
    fun noClear => ⟨(slots_ppuCycle _ _ noClear).trans (by rw [noAdvance, noSpriteFetch]), ?_,
      (sprOverflow_ppuCycle _ _ noClear).trans (by rw [noEvaluation])⟩,
    fun window => (framebuffer_pixel _ _ window).trans ?_, framebuffer_noPixel _ _⟩
  · rw [v_updateAddress, if_neg fun h => off mask h.2, v_backgroundFetch, if_neg fun h => off rfl h.2.2]
  · by_cases window : PixelCycle p.scanline p.cycle
    · have noHit (bg : LayerPixel) (spr : SpritePixel) {u : Ppu} (hu : u.mask = p.mask) : sprite0Hits u bg spr = false := by
        rw [sprite0Hits, hu, noBackground, Bool.and_false, Bool.false_and]
      exact (spr0Hit_pixel _ _ window).trans (by rw [noHit _ _ mask, Bool.or_false])
    · exact spr0Hit_noPixel _ _ window noClear
  · rw [selectPixel_off (by rw [mask, noBackground]) (by rw [mask, noSprites])]
    rfl

/-! ## A frame (R328, R330) -/

/-- The PPU stands `n` cycles after scanline -1, cycle 0 of its frame. -/
structure AtPosition (n : Nat) (odd : Bool) (p : Ppu) : Prop where
  scanline : p.scanline = (n / 341 : Nat) - 1
  cycle : p.cycle = n % 341
  oddFrame : p.oddFrame = odd

theorem ppuSteps_succ (n : Nat) (s : State) : ppuSteps (n + 1) s = stepPpu (ppuSteps n s) := by
  induction n generalizing s with
  | zero => rfl
  | succ n ih => exact ih (stepPpu s)

section
variable {n : Nat} {odd : Bool} {s : State}

theorem AtPosition.next (h : AtPosition n odd s.ppu) (hn : n + 1 < 89342) : AtPosition (n + 1) odd (stepPpu s).ppu := by
  obtain ⟨scanline, cycle, rfl⟩ := h
  have counters := counters_ppuCycle s.config s.chrRam s.ppu
  by_cases more : s.ppu.cycle < 340
  · rw [if_pos more] at counters
    simp only [Prod.mk.injEq] at counters
    obtain ⟨cycle', scanline', odd'⟩ := counters
    exact ⟨scanline'.trans (by omega), cycle'.trans (by omega), odd'⟩
  · rw [if_neg more, if_pos (by omega)] at counters
    simp only [Prod.mk.injEq] at counters
    obtain ⟨cycle', scanline', odd'⟩ := counters
    exact ⟨scanline'.trans (by omega), cycle'.trans (by omega), odd'⟩

/-- The last cycle of a frame leads to the first of the next, which for an odd one is cycle 1. -/
theorem AtPosition.wrap (h : AtPosition 89341 odd s.ppu) : AtPosition (if odd then 0 else 1) (!odd) (stepPpu s).ppu := by
  obtain ⟨scanline, cycle, rfl⟩ := h
  have counters := counters_ppuCycle s.config s.chrRam s.ppu
  rw [if_neg (by omega), if_neg (by omega)] at counters
  simp only [Prod.mk.injEq] at counters
  obtain ⟨cycle', scanline', odd'⟩ := counters
  refine ⟨scanline'.trans ?_, cycle'.trans ?_, odd'⟩ <;> cases s.ppu.oddFrame <;> rfl

theorem AtPosition.steps (h : AtPosition n odd s.ppu) (k : Nat) (hk : n + k < 89342) :
    AtPosition (n + k) odd (ppuSteps k s).ppu := by
  induction k with
  | zero => exact h
  | succ k ih =>
    rw [ppuSteps_succ]
    exact (ih (by omega)).next hk

theorem AtPosition.frame (h : AtPosition n odd s.ppu) {k : Nat} (hk : n + k = 89342) (hn : n < 89342) :
    AtPosition (if odd then 0 else 1) (!odd) (ppuSteps k s).ppu := by
  obtain ⟨m, rfl⟩ := Nat.exists_eq_add_one.mpr (by omega : 0 < k)
  have last : n + m = 89341 := by omega
  rw [ppuSteps_succ]
  exact (last ▸ h.steps m (by omega)).wrap

end

/-- Settles O34: a frame has 262 times 341 positions, of which an odd one skips the first. -/
theorem frameLength : Obligations.FrameLength := by
  intro s scanline cycle n
  have start : s.ppu.cycle + n = 89342 ∧ s.ppu.cycle < 2 := by
    rw [cycle]
    unfold n
    cases s.ppu.oddFrame <;> decide
  obtain ⟨length, first⟩ := start
  have begins : AtPosition s.ppu.cycle s.ppu.oddFrame s.ppu := ⟨by omega, by omega, rfl⟩
  obtain ⟨line, column, parity⟩ := begins.frame length (by omega)
  refine ⟨line.trans ?_, column.trans ?_, parity, fun k hk => (begins.steps k (by omega)).oddFrame⟩ <;>
    cases s.ppu.oddFrame <;> rfl

/-- What `n` cycles of a frame with rendering disabled have done: every pixel whose cycle is past has the backdrop's colour,
and the flags whose cycle is past are set. Pixel (x, y) is output at cycle x + 1 of scanline y. -/
structure BlankUpTo (colour : BitVec 32) (n : Nat) (s : State) : Prop where
  ctrl : s.ppu.ctrl = 0#8
  mask : s.ppu.mask = 0#8
  backdrop : s.config.colorLut.read (s.ppu.pal.read 0 &&& 0x3F#8).toNat = colour
  nmiPending : s.ppu.nmiPending = false
  drawn : ∀ x < 256, ∀ y < 240, 341 * (y + 1) + (x + 1) < n → s.ppu.framebuffer.read (256 * y + x) = colour
  frameComplete : 341 * 240 + 256 < n → s.ppu.frameComplete = true
  vblank : 341 * 242 + 1 < n → s.ppu.vblank = true

theorem BlankUpTo.next {colour : BitVec 32} {n : Nat} {odd : Bool} {s : State} (h : BlankUpTo colour n s) (inv : s.Inv)
    (position : AtPosition n odd s.ppu) (hn : n < 89342) : BlankUpTo colour (n + 1) (stepPpu s) := by
  obtain ⟨scanline, cycle, -⟩ := position
  obtain ⟨-, ctrl, mask, -, -, -, -, -, -, -, pal⟩ := ppuStepStaysInThePpu s
  obtain ⟨-, entry, noEntry, kept⟩ := vblankAndPreRenderFlags s
  obtain ⟨-, -, -, -, -, pixel, noPixel⟩ := renderingDisabledCycle s (by rw [h.mask]; rfl) (by rw [h.mask]; rfl)
  obtain ⟨-, -, complete, -⟩ := colourOutputAndFrameCompletion s
  refine ⟨ctrl.trans h.ctrl, mask.trans h.mask, ?_, ?_, fun x hx y hy past => ?_, fun past => ?_, fun past => ?_⟩
  · rw [pal]
    exact h.backdrop
  · by_cases now : s.ppu.scanline = 241 ∧ s.ppu.cycle = 1
    · rw [(entry now).2, h.nmiPending, h.ctrl]
      rfl
    · rw [noEntry now, h.nmiPending]
  · by_cases window : PixelCycle s.ppu.scanline s.ppu.cycle
    · rw [pixel window, Memory.read_write _ (Memory.wf_of_wfIn _ _ inv.ppu.framebuffer), h.mask]
      split
      case isTrue => exact h.backdrop
      case isFalse other => exact h.drawn x hx y hy (by omega)
    · rw [noPixel window]
      exact h.drawn x hx y hy (by omega)
  · rw [complete (by omega)]
    by_cases now : s.ppu.scanline = 239 ∧ s.ppu.cycle = 256
    · rw [now.1, now.2]
      exact Bool.or_true _
    · rw [h.frameComplete (by omega), Bool.true_or]
  · by_cases now : s.ppu.scanline = 241 ∧ s.ppu.cycle = 1
    · exact (entry now).1
    · rw [kept now (by omega)]
      exact h.vblank (by omega)

/-- Settles O35: after the whole frame every cycle that draws a pixel or sets a flag is past. -/
theorem blankFrame : Obligations.BlankFrame := by
  intro s inv scanline cycle even mask ctrl noNmi q
  have begins : AtPosition 0 false s.ppu := ⟨scanline, cycle, even⟩
  have blank (n : Nat) (hn : n ≤ 89342) :
      BlankUpTo (s.config.colorLut.read (s.ppu.pal.read 0 &&& 0x3F#8).toNat) n (ppuSteps n s) := by
    induction n with
    | zero => exact ⟨ctrl, mask, rfl, noNmi, fun _ _ _ _ past => by omega, fun past => by omega, fun past => by omega⟩
    | succ n ih =>
      have position := begins.steps n (by omega)
      rw [Nat.zero_add] at position
      rw [ppuSteps_succ]
      exact (ih (by omega)).next (ppuSteps_inv n inv) position (by omega)
  have ends : AtPosition 1 true q := begins.frame rfl (by omega)
  obtain ⟨-, -, -, nmi, drawn, complete, vblank⟩ := blank 89342 le_rfl
  have ran : (ppuSteps 89342 s).ppu = q := rfl
  rw [ran] at nmi drawn complete vblank
  -- With the run named, no later step of the proof can try to compute it.
  clear_value q
  exact ⟨fun x hx y hy => drawn x hx y hy (by omega), complete (by omega), vblank (by omega), nmi, ends.scanline, ends.cycle,
    ends.oddFrame⟩

end Sys2Proof.Machine

namespace Sys2Proof.Machine

/-! # Interrupts, the scheduler and reset (60_exceptions.md, 70_reset_and_hazards.md) -/

/-! ## Interrupts (60_exceptions.md R343 to R346) -/

/-- Settles O53: an NMI always enters, an IRQ unless `I` gates it. (The name `interruptEntry` is the model's operation.) -/
theorem interruptEntryIsAnEntry : Obligations.InterruptEntry :=
  fun s => ⟨entered_cpuNmi s, entered_cpuIrq, fun masked => if_pos masked⟩

/-! ## Reset and launch (70_reset_and_hazards.md R380, R381) -/

/-- Settles O8: the vector lies in program ROM, whose bytes are read with no side effect. -/
theorem resetOperation : Obligations.ResetOperation := by
  intro s
  rw [cpuReset, loadVector_eq _ _ (by decide) (by decide)]
  rfl

/-- Settles O9: power-on gives every element its value, and the reset after it changes the CPU alone. -/
theorem launchState : Obligations.LaunchState := by
  have launched (c : Config) (m : LaunchMemory) := resetOperation (powerOn c m)
  refine ⟨fun c m => ?_, by rw [reset_eq_launch]; exact congrArg State.cpu (launched _ _)⟩
  simp only [launch, launched]
  and_intros <;> rfl

/-! ## The scheduler (70_reset_and_hazards.md R390 to R392, R395) -/

/-- The host's acts neither read nor write the script they come from (log 7). -/
theorem hostAct_withScript (s : State) (e : HostEvent) (l : List (List HostEvent)) :
    hostAct { s with hostScript := l } e = { hostAct s e with hostScript := l } := by
  have entry (vec : Word) (h : 0x8000 ≤ vec.toNat) (h' : 0x8000 ≤ (vec + 1#16).toNat) :
      interruptEntry { s with hostScript := l } vec = { interruptEntry s vec with hostScript := l } := by
    simp only [interruptEntry, enterVector_eq _ _ vec h h']
    rfl
  cases e with
  | irq =>
    cases masked : flagI s.cpu.p with
    | true => simp only [hostAct, cpuIrq, masked, if_true]
    | false => simpa only [hostAct, cpuIrq, masked, Bool.false_eq_true, if_false] using entry vecIrq (by decide) (by decide)
  | nmi => exact entry vecNmi (by decide) (by decide)
  | reset => rfl
  | setButtons b => rfl

/-- The first act of a boundary comes before the acts after it (60_exceptions.md R352). -/
theorem hostBoundary_cons {s : State} {e : HostEvent} {es : List HostEvent} {rest : List (List HostEvent)}
    (script : s.hostScript = (e :: es) :: rest) :
    hostBoundary s = hostBoundary (hostAct { s with hostScript := es :: rest } e) := by
  simp only [hostBoundary, script, hostAct_withScript, List.headD_cons, List.tail_cons, List.foldl_cons]

/-- A step is the host's acts, three PPU cycles, the CPU's cycle and the end of the tick (R391, R392). -/
theorem step_eq (s : State) : step s = thenNext (stepCpu (ppuSteps 3 (hostBoundary s))) endTick := rfl

/-- Settles O54: the acts are folded over the state in their order, and `step_eq` is the order of the tick. -/
theorem schedulerOrder : Obligations.SchedulerOrder := by
  refine fun s => ⟨fun none => ?_, fun e es rest => hostBoundary_cons, ⟨rfl, rfl, rfl, fun _ => rfl⟩,
    fun owed => ?_, fun t run => ?_⟩
  · rw [hostBoundary, none]
    rfl
  · rw [step_eq, stepCpu, if_neg owed.ne']
    rfl
  · rw [step_eq, run]
    rfl

/-- With no cycle owed, the CPU's cycle runs the instruction that the bytes fetched decode to (R390). -/
theorem stepCpu_decoded {u : State} {i : Instr} (idle : u.cpu.debt = 0) (decoded : decode (fetch u).bytes = .ok (i, [])) :
    stepCpu u = thenNext (exec i (fetch u).state) payCycle := by
  rw [decode_fetch] at decoded
  cases decoded
  exact if_pos idle

/-- Settles O6: a stop of `exec` passes through the rest of the tick as it is. -/
theorem stepRunsDecodedInstruction : Obligations.StepRunsDecodedInstruction := by
  intro s i u idle decoded
  rw [step_eq, stepCpu_decoded idle decoded]
  cases exec i (fetch u).state <;> rfl

end Sys2Proof.Machine
